-- ==== Sys2Proof/Word.lean ====
section
/-! DEFINITION. The word types of FVMC (spec/00_scope.md R9, R10): bit vectors, bit 0 least significant. -/

namespace Sys2Proof

/-- A 32-bit bus word or register (R9). -/
abbrev Word := BitVec 32

/-- One byte of the receive stream, the ARG field of a command word (R71). -/
abbrev Byte := BitVec 8

/-- The 24-bit payload of a frame (R7 `PAYLOAD_BITS`). -/
abbrev Payload := BitVec 24

/-- The 56-bit frame value `V` (R7 `FRAME_BITS`, R90). -/
abbrev Frame := BitVec 56

/-- The bus address `addr[7:2]` of one of the 64 words of the register window (R21, R22). -/
abbrev WordAddr := BitVec 6

end Sys2Proof
end

