-- ==== Sys2Proof/Config.lean ====
section
/-! DEFINITION. What an implementation fixes: the constants of R7, and the parameters of R8 (spec/00_scope.md;
spec/93_implementation_defined.md section 3). No value of the spec is left free, so this file declares no free value. -/

namespace Sys2Proof.Config

/-- `DIVISOR`, written `D`: 33 bits (R7). -/
def divisor : Nat := 0x104C11DB7

/-- `MAX_CORR` in milli-units (R7, R14). -/
def maxCorr : Int := 25000

/-- `BAND_OFFSET` in milli-units (R7, R14). -/
def bandOffset : Int := 100000

/-- `TOL_HEAD` in mdeg (R7, R14). -/
def tolHead : Int := 1000

/-- `TOL_DIST` in mm (R7, R14). -/
def tolDist : Int := 100

/-- `CONV_N`: consecutive in-tolerance reads that end a phase (R7). -/
def convN : Nat := 2

/-- `NOISE_GATE` in mm/s² (R7, R14). -/
def noiseGate : Int := 500

/-- `STILL_N`: near-zero samples that force the velocity to zero (R7). -/
def stillN : Nat := 5

/-- A full turn in mdeg (R14, R120). -/
def fullTurn : Int := 360000

/-- Position units of 0.25e-15 m in one mm (R35, R124). -/
def posUnitsPerMm : Int := 4000000000000

/-- Velocity units of 0.5e-9 m/s in one mm/s (R36, R124). -/
def velUnitsPerMmS : Int := 2000000

/-- The parameters this hardware takes (R8, D39). They are plain numbers; `Params.inRange` (WellFormed.lean) gives
their ranges. -/
structure Params where
  /-- `Q_DEPTH`: capacity of the motion-task FIFO, 1..15. -/
  qDepth : Nat
  /-- `DT_US`: control period in microseconds, 1..1 000 000. -/
  dtUs : Nat
  /-- `YAW_ADV_SHIFT`: the Advancing heading error is divided by 2 to this power, 0..31. -/
  yawAdvShift : Nat
  /-- `FVMC_BASE`: host address of offset 0x00, any word-aligned value; it affects no rule (R50, D39). -/
  fvmcBase : Nat
deriving DecidableEq, Repr

/-- The defaults of R8. `FVMC_BASE` has none: 0 is a DESIGN CHOICE (log entry 2), unsafe only for a claim that rests
on the number. -/
def Params.defaults : Params := { qDepth := 8, dtUs := 5000, yawAdvShift := 2, fvmcBase := 0 }

/-- The host address at which the word `a` of the register window lies (R50: every offset is relative to
`FVMC_BASE`). -/
def Params.hostAddress (p : Params) (a : WordAddr) : Nat := p.fvmcBase + 4 * a.toNat

end Sys2Proof.Config
end

