-- ==== Sys2Proof/Syntax.lean ====
section
/-! DEFINITION. The syntax of FVMC: the nine commands (spec/30_encoding.md R72), the names of the mapped registers
(spec/10_state.md R22), the events of the host interface (R20, R21) and the assembler of R76 and R77. -/

namespace Sys2Proof

/-- The nine commands, one constructor per row of the opcode table (R72). Only RXPUSH carries an operand in its
word, the byte ARG (R73). -/
inductive Instr where
  /-- ENC, opcode 0x01 (R92). -/
  | enc
  /-- DEC, opcode 0x02 (R94). -/
  | dec
  /-- RXPUSH, opcode 0x03, with its byte ARG (R100). -/
  | rxpush (b : Byte)
  /-- RXFLUSH, opcode 0x04 (R101). -/
  | rxflush
  /-- ENQ, opcode 0x10 (R130). -/
  | enq
  /-- HALT, opcode 0x11 (R131). -/
  | halt
  /-- TICK, opcode 0x12 (R140). -/
  | tick
  /-- HERR, opcode 0x20 (R150). -/
  | herr
  /-- CORR, opcode 0x21 (R151). -/
  | corr
deriving DecidableEq, Repr

/-- The 27 mapped registers, in the order of R22's table. -/
inductive Reg where
  | cmd | err | fvPayload | fvFrameHi | fvFrameLo | fvResult | fvStat | fvCount
  | mcDist | mcTurn | mcState | mcTarget | mcPos | mcVel | motYaw | motFwd
  | zeroCnt | doneCnt | opa | opb | opres | mcTaskDist
  | sensHead | sensAx | sensAy | sensAz | sensValid
deriving DecidableEq, Repr

/-- One event of the host interface: a bus read, a bus write, or the reset input (R20). The bus moves whole words and
its address is `addr[7:2]`, so no other access can be expressed (R52). -/
inductive HostEvent where
  /-- A bus read of the word `a`: `MemRead(4*a, 4)` (R53). -/
  | read (a : WordAddr)
  /-- A bus write of `v` to the word `a`: `MemWrite(4*a, 4, v)` (R54). -/
  | write (a : WordAddr) (v : Word)
  /-- The reset input `rst` asserted, one atomic step between two accesses (R210). -/
  | reset
deriving DecidableEq, Repr

/-- One statement of the assembler (R76). Offsets and values are the numbers written; `Stmt.wf` (WellFormed.lean) says
which the syntax admits. -/
inductive Stmt where
  /-- `wr NAME, value` -/
  | wr (r : Reg) (value : Int)
  /-- `rd NAME`, with the value a listing may record after `->` -/
  | rd (r : Reg) (listed : Option Word)
  /-- `wr @off, value` -/
  | wrAt (off : Nat) (value : Int)
  /-- `rd @off` -/
  | rdAt (off : Nat)
  /-- a bare command mnemonic in lower case -/
  | cmd (i : Instr)
  /-- `; text` -/
  | comment (text : String)
deriving DecidableEq, Repr

/-- The nine pseudo-instructions (R77). -/
inductive Pseudo where
  /-- `encode p` -/
  | encode (p : Int)
  /-- `decode hi, lo` -/
  | decode (hi lo : Int)
  /-- `rxframe b0, …, b6` -/
  | rxframe (b0 b1 b2 b3 b4 b5 b6 : Byte)
  /-- `task d, t` -/
  | task (d t : Int)
  /-- `sense h, ax, ay, az, v` -/
  | sense (h ax ay az v : Int)
  /-- `step h, ax, ay, az, v` -/
  | step (h ax ay az v : Int)
  /-- `herr_of a, b` -/
  | herrOf (a b : Int)
  /-- `corr_of a` -/
  | corrOf (a : Int)
  /-- `clrerr` -/
  | clrerr
deriving DecidableEq, Repr

end Sys2Proof
end

