-- ==== Sys2Proof/WellFormed.lean ====
section
/-! DEFINITION. What is well formed: the parameter ranges of R8 and the numbers the assembler admits (R76). A command
(`Instr`) needs no check of its own: its one operand is a byte by type (R71), so every `Instr` is well formed; which
command WORDS are legal is the decoder's business (Decode.lean, R74). -/

namespace Sys2Proof

/-- The ranges of R8, and the word alignment of `FVMC_BASE` (D39). "A configuration outside the range is not an FVMC"
(spec/93_implementation_defined.md section 3). -/
def Config.Params.inRange (p : Config.Params) : Bool :=
  (1 ≤ p.qDepth && p.qDepth ≤ 15) && (1 ≤ p.dtUs && p.dtUs ≤ 1000000) && p.yawAdvShift ≤ 31 && p.fvmcBase % 4 = 0

/-- A value of the assembler is a 32-bit number; a negative decimal stands for its two's-complement pattern (R76). -/
def asmValueOk (v : Int) : Bool := -(2 ^ 31) ≤ v && v < 2 ^ 32

/-- `off` is a multiple of 4 in 0x00..0xFC (R76). -/
def asmOffsetOk (off : Nat) : Bool := off % 4 = 0 && off ≤ 0xFC

/-- The statements R76 admits. -/
def Stmt.wf : Stmt → Bool
  | .wr _ v => asmValueOk v
  | .rd _ _ => true
  | .wrAt off v => asmOffsetOk off && asmValueOk v
  | .rdAt off => asmOffsetOk off
  | .cmd _ => true
  | .comment _ => true

/-- The pseudo-instructions R77 admits: every number a 32-bit number. -/
def Pseudo.wf : Pseudo → Bool
  | .encode p => asmValueOk p
  | .decode hi lo => asmValueOk hi && asmValueOk lo
  | .rxframe _ _ _ _ _ _ _ => true
  | .task d t => asmValueOk d && asmValueOk t
  | .sense h ax ay az v => asmValueOk h && asmValueOk ax && asmValueOk ay && asmValueOk az && asmValueOk v
  | .step h ax ay az v => asmValueOk h && asmValueOk ax && asmValueOk ay && asmValueOk az && asmValueOk v
  | .herrOf a b => asmValueOk a && asmValueOk b
  | .corrOf a => asmValueOk a
  | .clrerr => true

end Sys2Proof
end

