-- ==== Sys2Proof/Decode.lean ====
section
/-! DEFINITION. Command words: the decoder (spec/30_encoding.md R70 to R75) and the encoder (R71, R72, R78). -/

namespace Sys2Proof

/-- Why a command word is illegal (R74). Both raise ILLEGAL_CMD; the name changes nothing (log entry 8). -/
inductive IllegalCommand where
  /-- OP is not in the table of R72. -/
  | unassignedOpcode
  /-- A bit under `reserved_mask(op)` is 1. -/
  | reservedBitSet
deriving DecidableEq, Repr

/-- OP, bits 7:0 (R71). -/
def opField (w : Word) : Byte := w.extractLsb' 0 8

/-- ARG, bits 15:8 (R71, R73). -/
def argField (w : Word) : Byte := w.extractLsb' 8 8

/-- The command an opcode selects, given ARG (R72). -/
def opcodeRow (op arg : Byte) : Option Instr :=
  if op = 0x01#8 then some .enc
  else if op = 0x02#8 then some .dec
  else if op = 0x03#8 then some (.rxpush arg)
  else if op = 0x04#8 then some .rxflush
  else if op = 0x10#8 then some .enq
  else if op = 0x11#8 then some .halt
  else if op = 0x12#8 then some .tick
  else if op = 0x20#8 then some .herr
  else if op = 0x21#8 then some .corr
  else none

/-- `reserved_mask(op)` (R71): ARG is reserved for every opcode but RXPUSH's. -/
def reservedMask (op : Byte) : Word := if op = 0x03#8 then 0xFFFF0000#32 else 0xFFFFFF00#32

/-- The decoder, total on 32-bit words (R70, R74). -/
def decode (w : Word) : Except IllegalCommand Instr :=
  match opcodeRow (opField w) (argField w) with
  | none => .error .unassignedOpcode
  | some i => if w &&& reservedMask (opField w) = 0#32 then .ok i else .error .reservedBitSet

/-- The command words of R72 and R78. -/
def encode : Instr → Word
  | .enc => 0x00000001#32
  | .dec => 0x00000002#32
  | .rxpush b => 0x00000003#32 ||| (b.setWidth 32 <<< 8)
  | .rxflush => 0x00000004#32
  | .enq => 0x00000010#32
  | .halt => 0x00000011#32
  | .tick => 0x00000012#32
  | .herr => 0x00000020#32
  | .corr => 0x00000021#32

/-- The instruction this decoder reads from an instruction of `nbits` bits with value `w`: one 32-bit command word
crosses the bus as one integer, so there is no byte order to lay out (R52, R71); bits above `nbits` are 0. -/
def decodeTableWord (nbits w : Nat) : Option Instr :=
  match decode (BitVec.ofNat 32 (w % 2 ^ nbits)) with
  | .ok i => some i
  | .error _ => none

end Sys2Proof
end

