-- ==== Sys2Proof/Machine/Arith.lean ====
section
/-! DEFINITION. The fitting functions of R11 over the mathematical integers. Every rule computes exactly; a result is
narrowed only by one of these or by storing it in a field. -/

namespace Sys2Proof.Machine

/-- `fdiv(a, b)` for `b > 0`: the floor of `a / b` (Lean's integer division rounds down for a positive divisor). -/
def fdiv (a b : Int) : Int := a / b

/-- `fmod(a, b) = a - b * fdiv(a, b)`. -/
def fmod (a b : Int) : Int := a - b * fdiv a b

/-- `sat_S64`. -/
def satS64 (v : Int) : Int := max (-(2 ^ 63)) (min (2 ^ 63 - 1) v)

/-- `sat_S32`. -/
def satS32 (v : Int) : Int := max (-(2 ^ 31)) (min (2 ^ 31 - 1) v)

/-- `abs`, as an integer. -/
def absInt (v : Int) : Int := if v < 0 then -v else v

/-- `sext_N`: the signed value of a bit pattern. -/
def sext {n : Nat} (v : BitVec n) : Int := v.toInt

/-- The unsigned value of a bit pattern, as an integer. -/
def uval {n : Nat} (v : BitVec n) : Int := (v.toNat : Int)

end Sys2Proof.Machine
end

