-- ==== Sys2Proof/Machine/State.lean ====
section
/-! DEFINITION. The state of FVMC (spec/10_state.md R25 to R46), its value after reset (spec/70_reset_and_hazards.md
R211), and why a step can stop. Plain data. INVENTORY.md lists every field with its rule. -/

namespace Sys2Proof.Machine

/-- MC_STATE.PHASE (R33); the code 3 never occurs. -/
inductive Phase where
  /-- 0: no active task -/
  | idle
  /-- 1 -/
  | turning
  /-- 2 -/
  | advancing
deriving DecidableEq, Repr

/-- One entry `(dist, turn)` of the motion-task FIFO (R45). -/
structure Task where
  /-- distance in mm, 0..1 048 575 -/
  dist : BitVec 20
  /-- turn in mdeg, read signed -/
  turn : BitVec 32
deriving DecidableEq, Repr

/-- The fields of FV_RESULT (R28). -/
structure FvResult where
  /-- bits 23:0 -/
  payload : Payload
  /-- bit 24 -/
  valid : Bool
  /-- bit 25: true when the receive assembler delivered the frame -/
  src : Bool
  /-- bit 26 -/
  decoded : Bool
deriving DecidableEq, Repr

/-- Everything the spec gives the machine, and three fields of the model's own: `cfg` (log entry 1), `pending`
(log entry 3) and `readData` (log entry 4). -/
structure State where
  /-- the parameters of R8; no step changes them (R213) -/
  cfg : Config.Params
  /-- ERR[6:0], sticky (R25) -/
  err : BitVec 7
  /-- FV_PAYLOAD.PAYLOAD (R26) -/
  fvPayload : Payload
  /-- FV_FRAME_HI[23:0], frame bits 55:32 (R27) -/
  frameHi : BitVec 24
  /-- FV_FRAME_LO, frame bits 31:0 (R27) -/
  frameLo : BitVec 32
  /-- FV_RESULT (R28) -/
  fvResult : FvResult
  /-- FV_STAT.RXCNT (R29, R44) -/
  rxCnt : BitVec 3
  /-- FV_STAT.LAST_ENC_OVF (R29) -/
  lastEncOvf : Bool
  /-- st.rxbuf (R44) -/
  rxBuf : BitVec 48
  /-- FV_COUNT.ACCEPT_CNT (R30) -/
  acceptCnt : BitVec 16
  /-- FV_COUNT.REJECT_CNT (R30) -/
  rejectCnt : BitVec 16
  /-- MC_DIST.DIST (R31) -/
  mcDist : BitVec 20
  /-- MC_TURN (R32) -/
  mcTurn : BitVec 32
  /-- MC_STATE.PHASE (R33) -/
  phase : Phase
  /-- MC_STATE.INTOL (R33) -/
  inTol : BitVec 2
  /-- MC_STATE.STILL (R33) -/
  still : BitVec 3
  /-- MC_STATE.HEAD_DEFAULTED (R33) -/
  headDefaulted : Bool
  /-- st.fifo (R45), head first; MC_STATE.QCOUNT is its length -/
  fifo : List Task
  /-- MC_TARGET (R34) -/
  mcTarget : BitVec 32
  /-- MC_TASK_DIST (R41) -/
  taskDist : BitVec 20
  /-- st.a_prev, signed mm/s² (R46) -/
  aPrev : BitVec 32
  /-- st.v_x, signed, units of 0.5e-9 m/s (R46) -/
  vX : BitVec 64
  /-- st.p_x, signed, units of 0.25e-15 m (R46) -/
  pX : BitVec 64
  /-- MOT_YAW (R37) -/
  motYaw : BitVec 17
  /-- MOT_FWD (R37) -/
  motFwd : BitVec 17
  /-- ZERO_CNT (R38) -/
  zeroCnt : BitVec 32
  /-- DONE_CNT (R39) -/
  doneCnt : BitVec 32
  /-- OPA (R40) -/
  opa : BitVec 32
  /-- OPB (R40) -/
  opb : BitVec 32
  /-- OPRES (R40) -/
  opres : BitVec 32
  /-- SENS_HEAD (R42) -/
  sensHead : BitVec 32
  /-- SENS_AX (R42) -/
  sensAx : BitVec 32
  /-- SENS_AY (R42) -/
  sensAy : BitVec 32
  /-- SENS_AZ (R42) -/
  sensAz : BitVec 32
  /-- SENS_VALID[1:0]: bit 0 HEAD_OK, bit 1 ACC_OK (R43) -/
  sensValid : BitVec 2
  /-- the MODEL's own: the host's events still to come, first one first (log entry 3) -/
  pending : List Sys2Proof.HostEvent
  /-- the MODEL's own: what the last bus read returned to the host (log entry 4) -/
  readData : Option Word
deriving DecidableEq, Repr

/-- No access stops FVMC: "stuck … No entry in this spec has this treatment" (spec/93_implementation_defined.md), and an
error is a sticky flag after which FVMC goes on (R180). So there is no fault. -/
inductive Fault where
deriving DecidableEq, Repr

/-- Why a step has no meaning. -/
inductive Refusal where
  /-- An instruction without a meaning. Raised by no arm: every command has its meaning. Safe. -/
  | notModelled (mnemonic : String)
  /-- Raised by `step` alone, when `cfg` lies outside the ranges of R8: "A configuration outside the range is not an
  FVMC, and a model should refuse it" (spec/93_implementation_defined.md section 3). Safe. -/
  | parameterOutOfRange
deriving DecidableEq, Repr

/-- The machine right after reset (R211): every element 0, PHASE = IDLE, the FIFO empty, both sensors invalid; with the
default parameters of R8, no event pending and nothing read yet (log entries 1 to 4). -/
def State.reset : State where
  cfg := Config.Params.defaults
  err := 0
  fvPayload := 0
  frameHi := 0
  frameLo := 0
  fvResult := { payload := 0, valid := false, src := false, decoded := false }
  rxCnt := 0
  lastEncOvf := false
  rxBuf := 0
  acceptCnt := 0
  rejectCnt := 0
  mcDist := 0
  mcTurn := 0
  phase := .idle
  inTol := 0
  still := 0
  headDefaulted := false
  fifo := []
  mcTarget := 0
  taskDist := 0
  aPrev := 0
  vX := 0
  pX := 0
  motYaw := 0
  motFwd := 0
  zeroCnt := 0
  doneCnt := 0
  opa := 0
  opb := 0
  opres := 0
  sensHead := 0
  sensAx := 0
  sensAy := 0
  sensAz := 0
  sensValid := 0
  pending := []
  readData := none

end Sys2Proof.Machine
end

