-- ==== Sys2Proof/Machine/Flags.lean ====
section
/-! DEFINITION. The error flags of ERR (spec/10_state.md R25, spec/60_exceptions.md R181) and the two flag
computations that a rule tests: the overflow of the check value (R93) and the clamping of an accumulator (R124). -/

namespace Sys2Proof.Machine

/-- The seven error codes, the bits of ERR (R181). -/
inductive ErrFlag where
  /-- code 0: a decoded frame was rejected -/
  | csumErr
  /-- code 1: an illegal command word -/
  | illegalCmd
  /-- code 2: ENQ with the FIFO full -/
  | qFull
  /-- code 3: a required sensor marked invalid -/
  | sensErr
  /-- code 4: a check value above 32 bits -/
  | encOvf
  /-- code 5: an estimator accumulator was clamped -/
  | accSat
  /-- code 6: a bus access to an unmapped offset, or a write to an RO register -/
  | busErr
deriving DecidableEq, Repr

/-- The error code, the flag's bit number in ERR (R25, R181). -/
def ErrFlag.code : ErrFlag → Nat
  | .csumErr => 0
  | .illegalCmd => 1
  | .qFull => 2
  | .sensErr => 3
  | .encOvf => 4
  | .accSat => 5
  | .busErr => 6

/-- ERR with this one flag set. -/
def ErrFlag.mask (f : ErrFlag) : BitVec 7 := 1#7 <<< f.code

/-- `c > 0xFFFF_FFFF`: the check value needs 33 bits (R92, R93). -/
def checkOverflows (c : Nat) : Bool := 0xFFFFFFFF < c

/-- `sat_S64(v) != v`: the accumulator is clamped (R124). -/
def clampsS64 (v : Int) : Bool := satS64 v ≠ v

end Sys2Proof.Machine
end

