-- ==== Sys2Proof/Machine/Ops.lean ====
section
/-! DEFINITION. The shared operations on the state: raising an error flag (FVMC's whole "exception": R180, R185) and
clearing it, the zero event (R123), and the frame registers (R27). -/

namespace Sys2Proof.Machine

/-- `raise FLAG` when `c` holds: sets the sticky bit in the same step and does nothing else. No state is saved, no
control transfer, no mode change (R12, R180, R185). -/
def State.raiseWhen (c : Bool) (f : ErrFlag) (s : State) : State :=
  { s with err := if c then s.err ||| f.mask else s.err }

/-- `raise FLAG(info)` (R12, R180). -/
def State.raise (f : ErrFlag) (s : State) : State := s.raiseWhen true f

/-- The W1C write of ERR: `reg[ERR] AND NOT (v AND 0x7F)` (R54). It is all there is of a return from an error
(R186). -/
def State.clearErr (v : Word) (s : State) : State := { s with err := s.err &&& ~~~ (v.setWidth 7) }

/-- `zero_motors()`, one zero event (R123); ZERO_CNT wraps modulo 2^32 (R38). -/
def State.zeroMotors (s : State) : State := { s with motYaw := 0, motFwd := 0, zeroCnt := s.zeroCnt + 1 }

/-- Writes `V[55:32]` and `V[31:0]` to FV_FRAME_HI and FV_FRAME_LO (R27). -/
def State.writeFrame (v : Frame) (s : State) : State :=
  { s with frameHi := v.extractLsb' 32 24, frameLo := v.extractLsb' 0 32 }

/-- The reset input (R210, R211): every element of the machine at its reset value. The parameters are not state (R213);
the host's pending events and what it has read are the host's. -/
def State.applyReset (s : State) : State :=
  { State.reset with cfg := s.cfg, pending := s.pending, readData := s.readData }

end Sys2Proof.Machine
end

