-- ==== Sys2Proof/Machine/Operands.lean ====
section
/-! DEFINITION. The operand forms of R73: what a command reads at its CMD write step, and how. -/

namespace Sys2Proof.Machine

/-- `reg[FV_FRAME_HI][23:0] ++ reg[FV_FRAME_LO][31:0]` (R27, R73). -/
def State.frame (s : State) : Frame := s.frameHi ++ s.frameLo

/-- MC_DIST and MC_TURN, copied as they stand (R61, R73, R130). -/
def State.taskOperand (s : State) : Task := { dist := s.mcDist, turn := s.mcTurn }

/-- HEAD_OK, SENS_VALID[0] (R43). -/
def State.headOk (s : State) : Bool := s.sensValid.getLsbD 0

/-- ACC_OK, SENS_VALID[1] (R43). -/
def State.accOk (s : State) : Bool := s.sensValid.getLsbD 1

/-- `sext_32(reg[SENS_HEAD])`, mdeg (R42, R73). -/
def State.heading (s : State) : Int := sext s.sensHead

/-- `sext_32(reg[OPA])` (R40, R73). -/
def State.operandA (s : State) : Int := sext s.opa

/-- `sext_32(reg[OPB])` (R40, R73). -/
def State.operandB (s : State) : Int := sext s.opb

/-- `fdiv(st.p_x, 4 * 10^12)`: the forward position in mm (R35, R145). -/
def State.posMm (s : State) : Int := fdiv (sext s.pX) Config.posUnitsPerMm

/-- `sat_S32(fdiv(st.v_x, 2 * 10^6))`: the forward velocity in mm/s (R36). -/
def State.velMmS (s : State) : Int := satS32 (fdiv (sext s.vX) Config.velUnitsPerMmS)

end Sys2Proof.Machine
end

