-- ==== Sys2Proof/Machine/Control.lean ====
section
/-! DEFINITION. The pure functions of the motion controller (spec/41_motion_control.md section 1), over the integers. -/

namespace Sys2Proof.Machine

/-- `herr(t, h)`: the shortest signed rotation from `h` to `t`, in mdeg (R120). -/
def headingError (t h : Int) : Int := fmod (t - h + 180000) Config.fullTurn - 180000

/-- `corr(e)`: the bounded correction, the feedback saturation (R121). -/
def correction (e : Int) : Int :=
  if e < 0 then min (Config.bandOffset + absInt e) (Config.bandOffset + Config.maxCorr) else min e Config.maxCorr

/-- `gate(a)`: the noise gate of one acceleration axis (R122). -/
def noiseGated (a : Int) : Int := if absInt a ≤ Config.noiseGate then 0 else a

/-- A speed code as the 17-bit motor register holds it (R37); `corr` is at most 125 000. -/
def speedCode (e : Int) : BitVec 17 := BitVec.ofInt 17 (correction e)

/-- INTOL after a read: counted up when in tolerance, else 0 (R142, R145). -/
def countInTol (ok : Bool) (n : BitVec 2) : BitVec 2 := if ok then n + 1 else 0

/-- STILL after a sample: counted up to `STILL_N` when near zero, else 0 (R124). -/
def countStill (quiet : Bool) (n : BitVec 3) : BitVec 3 :=
  if quiet then BitVec.ofNat 3 (min (n.toNat + 1) Config.stillN) else 0

end Sys2Proof.Machine
end

