-- ==== Sys2Proof/Machine/Diagnostic.lean ====
section
/-! DEFINITION. The diagnostic commands HERR and CORR (spec/41_motion_control.md section 4). -/

namespace Sys2Proof.Machine

/-- HERR (R150): `zext_32(fmod(herr, 2^32))` into OPRES. -/
def execHerr (s : State) : Host.Outcome State Fault Refusal :=
  .next { s with opres := BitVec.ofInt 32 (fmod (headingError s.operandA s.operandB) (2 ^ 32)) }

/-- CORR (R151): `corr` into OPRES. -/
def execCorr (s : State) : Host.Outcome State Fault Refusal :=
  .next { s with opres := BitVec.ofInt 32 (correction s.operandA) }

end Sys2Proof.Machine
end

