-- ==== Sys2Proof/Machine/FrameValidator.lean ====
section
/-! DEFINITION. The frame validator and codec, unit FV: ENC, DEC, RXPUSH, RXFLUSH (spec/40_frame_codec.md). -/

namespace Sys2Proof.Machine

/-- A frame is accepted exactly when its value is an integer multiple of `D` (R90). -/
def accepts (v : Frame) : Bool := v.toNat % Config.divisor = 0

/-- `x = p << 32`, that is `p * 2^32` (R11, R91). -/
def shiftedPayload (p : Payload) : Nat := 2 ^ 32 * p.toNat

/-- The check value `c = D - (x mod D)`, which can need 33 bits (R91). -/
def checkValue (p : Payload) : Nat := Config.divisor - shiftedPayload p % Config.divisor

/-- `V = x OR c` (R91). -/
def encodeValue (p : Payload) : Nat := shiftedPayload p ||| checkValue p

/-- The 56-bit frame of `enc(p)` (R91: "V < 2^56 always"). -/
def encodeFrame (p : Payload) : Frame := BitVec.ofNat 56 (encodeValue p)

/-- Wire byte `k` (0..6, byte 0 sent first) of a frame: `V[55-8k : 48-8k]`, big-endian (R27, R51). -/
def wireByte (v : Frame) (k : Nat) : Byte := v.extractLsb' (48 - 8 * k) 8

/-- `decode_frame(V, src)`, shared by DEC and the seventh RXPUSH (R95, R96). -/
def decodeFrame (v : Frame) (src : Bool) (s : State) : State :=
  if accepts v then
    { s with
      fvResult := { payload := v.extractLsb' 32 24, valid := true, src := src, decoded := true }
      acceptCnt := s.acceptCnt + 1 }
  else
    State.zeroMotors (State.raise .csumErr
      { s with
        fvResult := { payload := 0, valid := false, src := src, decoded := true }
        rejectCnt := s.rejectCnt + 1 })

/-- `st.rxbuf * 256 + b` held in 48 bits (R44, R100); with fewer than six bytes held it is exact. -/
def appendByte (buf : BitVec 48) (b : Byte) : BitVec 48 := (buf ++ b).setWidth 48

/-- ENC (R92, R93). -/
def execEnc (s : State) : Host.Outcome State Fault Refusal :=
  let ovf := checkOverflows (checkValue s.fvPayload)
  .next (State.raiseWhen ovf .encOvf { s.writeFrame (encodeFrame s.fvPayload) with lastEncOvf := ovf })

/-- DEC (R94). -/
def execDec (s : State) : Host.Outcome State Fault Refusal := .next (decodeFrame s.frame false s)

/-- RXPUSH (R100). -/
def execRxpush (b : Byte) (s : State) : Host.Outcome State Fault Refusal :=
  if s.rxCnt.toNat < 6 then
    .next { s with rxBuf := appendByte s.rxBuf b, rxCnt := s.rxCnt + 1 }
  else
    .next (decodeFrame (s.rxBuf ++ b) true { s.writeFrame (s.rxBuf ++ b) with rxBuf := 0, rxCnt := 0 })

/-- RXFLUSH (R101). -/
def execRxflush (s : State) : Host.Outcome State Fault Refusal := .next { s with rxBuf := 0, rxCnt := 0 }

end Sys2Proof.Machine
end

