-- ==== Sys2Proof/Machine/Motion.lean ====
section
/-! DEFINITION. The motion controller, unit MC: ENQ, HALT, TICK (spec/41_motion_control.md sections 1 to 3). -/

namespace Sys2Proof.Machine

/-- `est_step(ax, ay, az)`: one dead-reckoning step (R124). A trapezoid into the velocity, which drift suppression
forces to 0 on the fifth and every further near-zero sample; a trapezoid of the old and the new velocity into the
position; each clamped to 64 bits with ACC_SAT (a forced velocity is not clamped). -/
def estStep (ax ay az : Int) (s : State) : State :=
  let gx := noiseGated ax
  let quiet := gx = 0 && noiseGated ay = 0 && noiseGated az = 0
  let still := countStill quiet s.still
  let forced := still = BitVec.ofNat 3 Config.stillN
  let vOld := sext s.vX
  let vSum := vOld + (sext s.aPrev + gx) * s.cfg.dtUs
  let vNew := if forced then 0 else satS64 vSum
  let pSum := sext s.pX + (vOld + vNew) * s.cfg.dtUs
  { s.raiseWhen ((!forced && clampsS64 vSum) || clampsS64 pSum) .accSat with
    still := still
    aPrev := BitVec.ofInt 32 gx
    vX := BitVec.ofInt 64 vNew
    pX := BitVec.ofInt 64 (satS64 pSum) }

/-- `start_task(hv)` with the FIFO's head and tail in hand (R141). An invalid heading is taken as 0. -/
def startTask (task : Task) (rest : List Task) (s : State) : State :=
  let h := if s.headOk then s.heading else 0
  { s.raiseWhen (!s.headOk) .sensErr with
    fifo := rest
    headDefaulted := !s.headOk
    mcTarget := BitVec.ofInt 32 (fmod (h + sext task.turn) Config.fullTurn)
    taskDist := task.dist
    inTol := 0
    still := 0
    aPrev := 0
    vX := 0
    pX := 0
    phase := .turning }

/-- `turning_step()` (R142). On the converging read the motors are not written. -/
def turningStep (s : State) : State :=
  let e := headingError (uval s.mcTarget) s.heading
  let n := countInTol (absInt e ≤ Config.tolHead) s.inTol
  if n = BitVec.ofNat 2 Config.convN then { s with inTol := 0, phase := .advancing }
  else { s with inTol := n, motYaw := speedCode e, motFwd := 0 }

/-- `sensor_hold()` (R143, R144): both motors 0, but no zero event. -/
def sensorHold (s : State) : State := { s.raise .sensErr with inTol := 0, motYaw := 0, motFwd := 0 }

/-- What `advancing_step()` does after `est_step` (R145): Done on the second in-tolerance read, else the forward
correction and the low-gain yaw hold. -/
def advanceControl (s : State) : State :=
  let de := uval s.taskDist - s.posMm
  let n := countInTol (absInt de ≤ Config.tolDist) s.inTol
  if n = BitVec.ofNat 2 Config.convN then
    { s.zeroMotors with inTol := 0, phase := .idle, doneCnt := s.doneCnt + 1 }
  else
    { s with
      inTol := n
      motFwd := speedCode de
      motYaw := speedCode (fdiv (headingError (uval s.mcTarget) s.heading) (2 ^ s.cfg.yawAdvShift)) }

/-- `advancing_step()` (R145). -/
def advancingStep (s : State) : State :=
  advanceControl (estStep (sext s.sensAx) (sext s.sensAy) (sext s.sensAz) s)

/-- The phase part of TICK, tested once (R140): no Advancing step runs in the TICK that ends Turning. -/
def runPhase (s : State) : State :=
  match s.phase with
  | .idle => s
  | .turning => if s.headOk then turningStep s else sensorHold s
  | .advancing => if s.headOk && s.accOk then advancingStep s else sensorHold s

/-- ENQ (R130). -/
def execEnq (s : State) : Host.Outcome State Fault Refusal :=
  if s.fifo.length = s.cfg.qDepth then .next (s.raise .qFull)
  else .next { s with fifo := s.fifo ++ [s.taskOperand] }

/-- HALT (R131). -/
def execHalt (s : State) : Host.Outcome State Fault Refusal :=
  .next (State.zeroMotors { s with fifo := [], phase := .idle })

/-- TICK (R140, R146). -/
def execTick (s : State) : Host.Outcome State Fault Refusal :=
  match s.phase, s.fifo with
  | .idle, [] => .next s
  | .idle, task :: rest => .next (runPhase (startTask task rest s))
  | .turning, _ => .next (runPhase s)
  | .advancing, _ => .next (runPhase s)

end Sys2Proof.Machine
end

