-- ==== Sys2Proof/Machine/Dispatch.lean ====
section
/-! DEFINITION. The meaning of every command, one arm per constructor (spec/30_encoding.md R72). -/

namespace Sys2Proof.Machine

def exec (i : Instr) (s : State) : Host.Outcome State Fault Refusal :=
  match i with
  | .enc => Sys2Proof.Machine.execEnc s
  | .dec => Sys2Proof.Machine.execDec s
  | .rxpush b => Sys2Proof.Machine.execRxpush b s
  | .rxflush => Sys2Proof.Machine.execRxflush s
  | .enq => Sys2Proof.Machine.execEnq s
  | .halt => Sys2Proof.Machine.execHalt s
  | .tick => Sys2Proof.Machine.execTick s
  | .herr => Sys2Proof.Machine.execHerr s
  | .corr => Sys2Proof.Machine.execCorr s

end Sys2Proof.Machine
end

