-- ==== Sys2Proof/Machine/RegisterMap.lean ====
section
/-! DEFINITION. The register window: offsets and access codes (spec/10_state.md R22), writable masks
(spec/20_memory.md R54), what a read returns field by field (R24 to R43) and what a write stores. -/

namespace Sys2Proof.Machine

/-- The access codes of R22; ERR is the one W1C register, CMD the one WO register. -/
inductive Access where
  /-- read and write -/
  | rw
  /-- read only: a write is discarded and sets BUS_ERR -/
  | ro
  /-- write only: reads as 0 -/
  | wo
  /-- a written 1 clears the bit -/
  | w1c
deriving DecidableEq, Repr

/-- Byte offset in the window (R22). -/
def regOffset : Reg → Nat
  | .cmd => 0x00
  | .err => 0x04
  | .fvPayload => 0x08
  | .fvFrameHi => 0x0C
  | .fvFrameLo => 0x10
  | .fvResult => 0x14
  | .fvStat => 0x18
  | .fvCount => 0x1C
  | .mcDist => 0x20
  | .mcTurn => 0x24
  | .mcState => 0x28
  | .mcTarget => 0x2C
  | .mcPos => 0x30
  | .mcVel => 0x34
  | .motYaw => 0x38
  | .motFwd => 0x3C
  | .zeroCnt => 0x40
  | .doneCnt => 0x44
  | .opa => 0x48
  | .opb => 0x4C
  | .opres => 0x50
  | .mcTaskDist => 0x54
  | .sensHead => 0x60
  | .sensAx => 0x64
  | .sensAy => 0x68
  | .sensAz => 0x6C
  | .sensValid => 0x70

/-- Access code (R22). -/
def regAccess : Reg → Access
  | .cmd => .wo
  | .err => .w1c
  | .fvPayload | .fvFrameHi | .fvFrameLo => .rw
  | .fvResult | .fvStat | .fvCount => .ro
  | .mcDist | .mcTurn => .rw
  | .mcState | .mcTarget | .mcPos | .mcVel | .motYaw | .motFwd | .zeroCnt | .doneCnt => .ro
  | .opa | .opb => .rw
  | .opres | .mcTaskDist => .ro
  | .sensHead | .sensAx | .sensAy | .sensAz | .sensValid => .rw

/-- The bus address `addr[7:2]` of the word at a byte offset (R21, R22). -/
def wordAddrOf (off : Nat) : WordAddr := BitVec.ofNat 6 (off / 4)

/-- The bus address of a register. -/
def regAddr (r : Reg) : WordAddr := wordAddrOf (regOffset r)

/-- The mapped registers, in the order of R22. -/
def allRegs : List Reg :=
  [.cmd, .err, .fvPayload, .fvFrameHi, .fvFrameLo, .fvResult, .fvStat, .fvCount, .mcDist, .mcTurn, .mcState,
   .mcTarget, .mcPos, .mcVel, .motYaw, .motFwd, .zeroCnt, .doneCnt, .opa, .opb, .opres, .mcTaskDist, .sensHead,
   .sensAx, .sensAy, .sensAz, .sensValid]

/-- The register mapped at a bus address; every other address is unmapped (R22). -/
def regAt (a : WordAddr) : Option Reg := allRegs.find? (fun r => regAddr r = a)

/-- `writable_mask` of each RW register (R54); 0 for the others. -/
def writableMask : Reg → Word
  | .fvPayload | .fvFrameHi => 0x00FFFFFF#32
  | .fvFrameLo => 0xFFFFFFFF#32
  | .mcDist => 0x000FFFFF#32
  | .mcTurn | .opa | .opb | .sensHead | .sensAx | .sensAy | .sensAz => 0xFFFFFFFF#32
  | .sensValid => 0x00000003#32
  | .cmd | .err | .fvResult | .fvStat | .fvCount | .mcState | .mcTarget | .mcPos | .mcVel | .motYaw | .motFwd
  | .zeroCnt | .doneCnt | .opres | .mcTaskDist => 0#32

/-- The code of MC_STATE.PHASE (R33). -/
def Phase.code : Phase → BitVec 2
  | .idle => 0
  | .turning => 1
  | .advancing => 2

/-- FV_RESULT as a word (R28). -/
def fvResultWord (r : FvResult) : Word :=
  0#5 ++ BitVec.ofBool r.decoded ++ BitVec.ofBool r.src ++ BitVec.ofBool r.valid ++ r.payload

/-- FV_STAT as a word (R29). -/
def fvStatWord (s : State) : Word := 0#28 ++ BitVec.ofBool s.lastEncOvf ++ s.rxCnt

/-- MC_STATE as a word (R33); QCOUNT is the FIFO's length (R45). -/
def mcStateWord (s : State) : Word :=
  0#20 ++ BitVec.ofBool s.headDefaulted ++ s.still ++ s.inTol ++ BitVec.ofNat 4 s.fifo.length ++ s.phase.code

/-- The value of a mapped register, every reserved bit 0 (R23 to R43, R53). -/
def readReg (r : Reg) (s : State) : Word :=
  match r with
  | .cmd => 0
  | .err => s.err.setWidth 32
  | .fvPayload => s.fvPayload.setWidth 32
  | .fvFrameHi => s.frameHi.setWidth 32
  | .fvFrameLo => s.frameLo
  | .fvResult => fvResultWord s.fvResult
  | .fvStat => fvStatWord s
  | .fvCount => s.rejectCnt ++ s.acceptCnt
  | .mcDist => s.mcDist.setWidth 32
  | .mcTurn => s.mcTurn
  | .mcState => mcStateWord s
  | .mcTarget => s.mcTarget
  | .mcPos => BitVec.ofInt 32 s.posMm
  | .mcVel => BitVec.ofInt 32 s.velMmS
  | .motYaw => s.motYaw.setWidth 32
  | .motFwd => s.motFwd.setWidth 32
  | .zeroCnt => s.zeroCnt
  | .doneCnt => s.doneCnt
  | .opa => s.opa
  | .opb => s.opb
  | .opres => s.opres
  | .mcTaskDist => s.taskDist.setWidth 32
  | .sensHead => s.sensHead
  | .sensAx => s.sensAx
  | .sensAy => s.sensAy
  | .sensAz => s.sensAz
  | .sensValid => s.sensValid.setWidth 32

/-- Stores the bits `v AND writable_mask` of an RW register (R54); a register of another access code keeps its value. -/
def writeReg (r : Reg) (v : Word) (s : State) : State :=
  let m := v &&& writableMask r
  match r with
  | .fvPayload => { s with fvPayload := m.setWidth 24 }
  | .fvFrameHi => { s with frameHi := m.setWidth 24 }
  | .fvFrameLo => { s with frameLo := m }
  | .mcDist => { s with mcDist := m.setWidth 20 }
  | .mcTurn => { s with mcTurn := m }
  | .opa => { s with opa := m }
  | .opb => { s with opb := m }
  | .sensHead => { s with sensHead := m }
  | .sensAx => { s with sensAx := m }
  | .sensAy => { s with sensAy := m }
  | .sensAz => { s with sensAz := m }
  | .sensValid => { s with sensValid := m.setWidth 2 }
  | .cmd | .err | .fvResult | .fvStat | .fvCount | .mcState | .mcTarget | .mcPos | .mcVel | .motYaw | .motFwd
  | .zeroCnt | .doneCnt | .opres | .mcTaskDist => s

/-- The output port `mot_yaw[16:0]`, always equal to the register (R21, R37). -/
def motYawPort (s : State) : BitVec 17 := s.motYaw

/-- The output port `mot_fwd[16:0]`, always equal to the register (R21, R37). -/
def motFwdPort (s : State) : BitVec 17 := s.motFwd

end Sys2Proof.Machine
end

