-- ==== Sys2Proof/Machine/Bus.lean ====
section
/-! DEFINITION. The access primitives of the host bus (spec/20_memory.md R53 to R55), `execute_command`
(spec/30_encoding.md R70) and one event of the host interface (spec/10_state.md R20). -/

namespace Sys2Proof.Machine

/-- `execute_command(w)` (R70): a legal word runs its command; an illegal one raises ILLEGAL_CMD and changes nothing
else (R74). -/
def executeCommand (w : Word) (s : State) : Host.Outcome State Fault Refusal :=
  match Sys2Proof.decode w with
  | .ok i => exec i s
  | .error _ => .next (s.raise .illegalCmd)

/-- The value `MemRead(off, 4)` returns (R53): 0 for CMD and for an unmapped offset. -/
def readValue (a : WordAddr) (s : State) : Word :=
  match regAt a with
  | some r => readReg r s
  | none => 0

/-- `MemRead(off, 4)` (R53): the host receives the value; an unmapped offset raises BUS_ERR, and a read of a mapped one
changes no state of FVMC. -/
def busRead (a : WordAddr) (s : State) : State :=
  { s.raiseWhen (regAt a).isNone .busErr with readData := some (readValue a s) }

/-- `MemWrite(off, 4, v)` (R54). -/
def busWrite (a : WordAddr) (v : Word) (s : State) : Host.Outcome State Fault Refusal :=
  match regAt a with
  | none => .next (s.raise .busErr)
  | some r =>
    match regAccess r with
    | .wo => executeCommand v s
    | .w1c => .next (s.clearErr v)
    | .rw => .next (writeReg r v s)
    | .ro => .next (s.raise .busErr)

/-- One event of the host interface, one atomic step (R20, R55, R210). -/
def hostEvent (e : HostEvent) (s : State) : Host.Outcome State Fault Refusal :=
  match e with
  | .read a => .next (busRead a s)
  | .write a v => busWrite a v s
  | .reset => .next s.applyReset

/-- The next event the host presents. With none, FVMC does nothing and keeps all its state (R192). -/
def serveHost (s : State) : Host.Outcome State Fault Refusal :=
  match s.pending with
  | [] => .next s
  | e :: rest => hostEvent e { s with pending := rest }

end Sys2Proof.Machine
end

