-- ==== Sys2Proof/Machine/Step.lean ====
section
/-! DEFINITION. One step of the machine: one event of the host interface (spec/20_memory.md R55). FVMC fetches nothing
(R61): what a processor's fetch would find is the next event of `State.pending` (log entry 3). -/

namespace Sys2Proof.Machine

/-- One step. Parameters outside their range are no FVMC and are refused (spec/93_implementation_defined.md section 3). -/
def step (s : State) : Host.Outcome State Fault Refusal :=
  if s.cfg.inRange then serveHost s else .refused .parameterOutOfRange

/-- `s` with the bus write of the command word `w` to CMD as the next event the host presents, before the events that
were pending (R24, R70); bits above `nbits` are 0. -/
def State.withFetchWord (s : State) (nbits w : Nat) : State :=
  { s with pending := .write (regAddr .cmd) (BitVec.ofNat 32 (w % 2 ^ nbits)) :: s.pending }

end Sys2Proof.Machine
end

