-- ==== Sys2Proof/Machine/Assembler.lean ====
section
/-! DEFINITION. The assembler of spec/30_encoding.md: each statement is one bus access (R76), each pseudo-instruction a
sequence of statements (R77). -/

namespace Sys2Proof.Machine

/-- The 32-bit pattern of a value; a negative decimal stands for its two's complement (R76). -/
def asmWord (v : Int) : Word := BitVec.ofInt 32 v

/-- The bus accesses of a statement (R76): one access, none for a comment. -/
def stmtEvents : Stmt → List HostEvent
  | .wr r v => [.write (regAddr r) (asmWord v)]
  | .rd r _ => [.read (regAddr r)]
  | .wrAt off v => [.write (wordAddrOf off) (asmWord v)]
  | .rdAt off => [.read (wordAddrOf off)]
  | .cmd i => [.write (regAddr .cmd) (encode i)]
  | .comment _ => []

/-- The statements of `sense h, ax, ay, az, v` (R77). -/
def senseStmts (h ax ay az v : Int) : List Stmt :=
  [.wr .sensHead h, .wr .sensAx ax, .wr .sensAy ay, .wr .sensAz az, .wr .sensValid v]

/-- The expansion of a pseudo-instruction (R77). -/
def expandPseudo : Pseudo → List Stmt
  | .encode p => [.wr .fvPayload p, .cmd .enc]
  | .decode hi lo => [.wr .fvFrameHi hi, .wr .fvFrameLo lo, .cmd .dec]
  | .rxframe b0 b1 b2 b3 b4 b5 b6 =>
    [.cmd (.rxpush b0), .cmd (.rxpush b1), .cmd (.rxpush b2), .cmd (.rxpush b3), .cmd (.rxpush b4),
     .cmd (.rxpush b5), .cmd (.rxpush b6)]
  | .task d t => [.wr .mcDist d, .wr .mcTurn t, .cmd .enq]
  | .sense h ax ay az v => senseStmts h ax ay az v
  | .step h ax ay az v => senseStmts h ax ay az v ++ [.cmd .tick]
  | .herrOf a b => [.wr .opa a, .wr .opb b, .cmd .herr]
  | .corrOf a => [.wr .opa a, .cmd .corr]
  | .clrerr => [.wr .err 0x7F]

/-- The bus accesses of a program, in order (R3, R76). -/
def programEvents (p : List Stmt) : List HostEvent := p.flatMap stmtEvents

/-- The bus accesses of a pseudo-instruction (R77). -/
def pseudoEvents (p : Pseudo) : List HostEvent := programEvents (expandPseudo p)

end Sys2Proof.Machine
end

