-- ==== Sys2Proof/Safety.lean ====
section
/-! DEFINITION. What counts as a good state and a safe run, in the terms the statements use. -/

namespace Sys2Proof.Machine

/-- The two bands of a motor code: 0..25 000 or 100 001..125 000 (R37, R48 item 8). -/
abbrev motorCodeLegal (v : BitVec 17) : Prop := v.toNat ≤ 25000 ∨ (100001 ≤ v.toNat ∧ v.toNat ≤ 125000)

/-- Both motor outputs are 0. -/
abbrev State.motorsStopped (s : State) : Prop := s.motYaw = 0 ∧ s.motFwd = 0

/-- R48 items 2 to 8 (item 1, PHASE is 0, 1 or 2, holds by the type), and R44's claim on the receive buffer: it holds
no more than the RXCNT bytes received. -/
abbrev State.Inv (s : State) : Prop :=
  s.fifo.length ≤ s.cfg.qDepth ∧ s.inTol.toNat ≤ 1 ∧ s.still.toNat ≤ 5 ∧ s.mcTarget.toNat < 360000 ∧
    s.rxCnt.toNat ≤ 6 ∧ s.rxBuf.toNat < 256 ^ s.rxCnt.toNat ∧ (s.phase = .idle → s.motorsStopped) ∧
    motorCodeLegal s.motYaw ∧ motorCodeLegal s.motFwd

/-- A payload that FV_RESULT shows as valid is one that some accepted frame carries (R98). -/
abbrev State.DeliveredByAcceptedFrame (s : State) : Prop :=
  s.fvResult.valid = true → ∃ v : Frame, accepts v = true ∧ v.extractLsb' 32 24 = s.fvResult.payload

/-- The event writes a word to CMD that decodes to `i`. -/
abbrev issues (i : Instr) (e : HostEvent) : Prop :=
  match e with
  | .write a w => a = regAddr .cmd ∧ Sys2Proof.decode w = .ok i
  | .read _ => False
  | .reset => False

/-- The host event that issues a command: a bus write of its word to CMD (R24, R78). -/
abbrev commandEvent (i : Instr) : HostEvent := .write (regAddr .cmd) (Sys2Proof.encode i)

/-- A run of control periods: before each TICK the host writes one heading to SENS_HEAD (R222). -/
def headingReads (headings : List Word) : List HostEvent :=
  headings.flatMap fun h => [.write (regAddr .sensHead) h, commandEvent .tick]

/-- A heading read is in tolerance of a target: `abs(herr) <= 1000` (R142). -/
abbrev headingInTol (target : BitVec 32) (h : Word) : Prop := |headingError target.toNat h.toInt| ≤ 1000

/-- No two consecutive entries of a list both have a property. -/
def NoTwoInARow {α : Type} (ok : α → Prop) (l : List α) : Prop :=
  ∀ pre a b post, l = pre ++ a :: b :: post → ¬ (ok a ∧ ok b)

/-- The bits of each register that a rule names; every other bit is reserved (R23 to R43). -/
def namedBits : Reg → Word
  | .cmd => 0#32
  | .err => 0x7F#32
  | .fvPayload | .fvFrameHi => 0x00FFFFFF#32
  | .fvResult => 0x07FFFFFF#32
  | .fvStat => 0xF#32
  | .mcDist | .mcTaskDist => 0x000FFFFF#32
  | .mcState => 0xFFF#32
  | .motYaw | .motFwd => 0x0001FFFF#32
  | .sensValid => 0x3#32
  | .fvFrameLo | .fvCount | .mcTurn | .mcTarget | .mcPos | .mcVel | .zeroCnt | .doneCnt | .opa | .opb | .opres
  | .sensHead | .sensAx | .sensAy | .sensAz => 0xFFFFFFFF#32

end Sys2Proof.Machine
end

