-- ==== Sys2Proof/Certificates/Slice0/Obligations.lean ====
section
/-! DEFINITION. The statements for the provers. Each docstring names the rule of spec/ it formalises. -/

open Sys2Proof Sys2Proof.Machine

/-! ## Command words (spec/30_encoding.md) -/

/-- Encoder and decoder agree in both directions: a word decodes to a command exactly when it is that command's word
(R71, R72, R78). -/
def Obligations.DecodeInvertsEncode : Prop :=
  ∀ (w : Word) (i : Instr), decode w = .ok i ↔ w = encode i

/-- The rows of R72's table, each with its mask and match, select the command; at most one row matches any word. -/
def Obligations.CommandTableSelects : Prop :=
  (∀ w : Word,
    (decode w = .ok .enc ↔ w &&& 0xFFFFFFFF#32 = 0x00000001#32) ∧
    (decode w = .ok .dec ↔ w &&& 0xFFFFFFFF#32 = 0x00000002#32) ∧
    (∀ b, decode w = .ok (.rxpush b) ↔ w &&& 0xFFFF00FF#32 = 0x00000003#32 ∧ b = w.extractLsb' 8 8) ∧
    (decode w = .ok .rxflush ↔ w &&& 0xFFFFFFFF#32 = 0x00000004#32) ∧
    (decode w = .ok .enq ↔ w &&& 0xFFFFFFFF#32 = 0x00000010#32) ∧
    (decode w = .ok .halt ↔ w &&& 0xFFFFFFFF#32 = 0x00000011#32) ∧
    (decode w = .ok .tick ↔ w &&& 0xFFFFFFFF#32 = 0x00000012#32) ∧
    (decode w = .ok .herr ↔ w &&& 0xFFFFFFFF#32 = 0x00000020#32) ∧
    (decode w = .ok .corr ↔ w &&& 0xFFFFFFFF#32 = 0x00000021#32)) ∧
  (∀ w : Word,
    ([(0xFFFFFFFF#32, 0x01#32), (0xFFFFFFFF#32, 0x02#32), (0xFFFF00FF#32, 0x03#32), (0xFFFFFFFF#32, 0x04#32),
      (0xFFFFFFFF#32, 0x10#32), (0xFFFFFFFF#32, 0x11#32), (0xFFFFFFFF#32, 0x12#32), (0xFFFFFFFF#32, 0x20#32),
      (0xFFFFFFFF#32, 0x21#32)].filter fun row => w &&& row.1 = row.2).length ≤ 1)

/-- R74: an unassigned opcode, or a 1 under the reserved mask, raises ILLEGAL_CMD, changes nothing else, and the next
access is the one served next. -/
def Obligations.IllegalWordOnlyRaisesFlag : Prop :=
  ∀ (s : State) (w : Word) (rest : List HostEvent), s.cfg.inRange = true →
    s.pending = .write (regAddr .cmd) w :: rest →
    (let op := (w.extractLsb' 0 8).toNat
     (op = 0 ∨ (0x05 ≤ op ∧ op ≤ 0x0F) ∨ (0x13 ≤ op ∧ op ≤ 0x1F) ∨ 0x22 ≤ op) ∨
      w &&& (if op = 0x03 then 0xFFFF0000#32 else 0xFFFFFF00#32) ≠ 0#32) →
    (∃ e, decode w = .error e) ∧ step s = .next { s with err := s.err ||| 0x02#7, pending := rest }

/-- R70: a CMD write runs the rule of its opcode's row when the opcode is in the table and no reserved bit is 1, and
raises ILLEGAL_CMD otherwise. -/
def Obligations.CommandWriteRunsItsRule : Prop :=
  ∀ (s : State) (w : Word) (rest : List HostEvent), s.cfg.inRange = true →
    s.pending = .write (regAddr .cmd) w :: rest →
    (let op := (w.extractLsb' 0 8).toNat
     if op ∈ [0x01, 0x02, 0x03, 0x04, 0x10, 0x11, 0x12, 0x20, 0x21] ∧
        w &&& (if op = 0x03 then 0xFFFF0000#32 else 0xFFFFFF00#32) = 0#32 then
      ∃ i, decode w = .ok i ∧ ((encode i).extractLsb' 0 8).toNat = op ∧ step s = exec i { s with pending := rest }
     else step s = .next { s with err := s.err ||| 0x02#7, pending := rest })

/-- A step runs the decoded instruction: when the next event of the host writes a word to CMD that decodes to `i`, step
is exec of `i` once the event is taken (R24, R55, R70). -/
def Obligations.StepRunsDecodedCommand : Prop :=
  ∀ (s : State) (w : Word) (rest : List HostEvent) (i : Instr), s.cfg.inRange = true →
    s.pending = .write (regAddr .cmd) w :: rest → decode w = .ok i → step s = exec i { s with pending := rest }

/-- A few words written out from the encoding of R71 and R72. -/
def Obligations.SampleWordsDecode : Prop :=
  decode 0b00000000000000000000000000000001#32 = .ok .enc ∧
  decode 0b00000000000000001001101100000011#32 = .ok (.rxpush 0x9B#8) ∧
  decode 0b00000000000000000000000000010010#32 = .ok .tick ∧
  decode 0b00000000000000000000000000100001#32 = .ok .corr ∧
  decode 0b10000000000000000000000000010010#32 = .error .reservedBitSet ∧
  decode 0b00000000000000000000000000010011#32 = .error .unassignedOpcode

/-- An error "stops nothing" (R180): every command answers a next state from every state, and so does every step of a
machine whose parameters are in range. -/
def Obligations.EveryCommandCompletes : Prop :=
  (∀ (i : Instr) (s : State), ∃ t, exec i s = .next t) ∧
  (∀ s : State, s.cfg.inRange = true → ∃ t, step s = .next t)

/-- A configuration outside the range is refused, whatever the host presents (spec/93_implementation_defined.md
section 3). -/
def Obligations.OutOfRangeParametersRefused : Prop :=
  ∀ s : State, (s.cfg.qDepth = 0 ∨ 15 < s.cfg.qDepth ∨ s.cfg.dtUs = 0 ∨ 1000000 < s.cfg.dtUs ∨ 31 < s.cfg.yawAdvShift ∨
      s.cfg.fvmcBase % 4 ≠ 0) →
    step s = .refused .parameterOutOfRange

/-! ## The frame validator (spec/40_frame_codec.md) -/

/-- R92: ENC, with its corner cases and its example. -/
def Obligations.EncEmitsLiteralFrame : Prop :=
  encode .enc = 0x00000001#32 ∧
  (∀ s : State,
    let x := 2 ^ 32 * s.fvPayload.toNat
    let c := 0x104C11DB7 - x % 0x104C11DB7
    let v := x ||| c
    exec .enc s = .next { s with
      frameHi := BitVec.ofNat 24 (v / 2 ^ 32)
      frameLo := BitVec.ofNat 32 v
      lastEncOvf := decide (0xFFFFFFFF < c)
      err := if 0xFFFFFFFF < c then s.err ||| 0x10#7 else s.err }) ∧
  (∀ s : State, s.fvPayload = 0 → ∃ t u, exec .enc s = .next t ∧ t.lastEncOvf = true ∧ t.frameHi = 0x000001#24 ∧
    t.frameLo = 0x04C11DB7#32 ∧ exec .dec t = .next u ∧ u.fvResult.payload = 1 ∧ u.fvResult.valid = true) ∧
  (∀ s : State, s.fvPayload = 1 → ∃ t, exec .enc s = .next t ∧ t.lastEncOvf = false ∧ t.frameHi = 0x000001#24 ∧
    t.frameLo = 0x04C11DB7#32) ∧
  (∀ s : State, s.fvPayload = 0xFFFFFF#24 → ∃ t, exec .enc s = .next t ∧ t.lastEncOvf = false ∧
    t.frameHi = 0xFFFFFF#24 ∧ t.frameLo = 0x9B9FF795#32)

/-- R91: the encode function, the bounds of its check value, the OR, and when the OR is a sum that `D` divides. -/
def Obligations.EncodeFormula : Prop :=
  ∀ p : Payload,
    let x := 2 ^ 32 * p.toNat
    let r := x % 0x104C11DB7
    let c := 0x104C11DB7 - r
    let v := x ||| c
    checkValue p = c ∧ encodeValue p = v ∧ r ≤ 0x104C11DB7 - 1 ∧ 1 ≤ c ∧ c ≤ 0x104C11DB7 ∧ c / 2 ^ 32 ≤ 1 ∧
    v < 2 ^ 56 ∧ (encodeFrame p).toNat = v ∧ v / 2 ^ 32 = p.toNat ||| c / 2 ^ 32 ∧ v % 2 ^ 32 = c % 2 ^ 32 ∧
    (c ≤ 0xFFFFFFFF → v = x + c ∧ (x + c) % 0x104C11DB7 = 0)

/-- R93 without its counts: when the check value overflows, and what the emitted frame then decodes to. -/
def Obligations.EncOverflowOutcome : Prop :=
  (∀ p : Payload,
    let r := 2 ^ 32 * p.toNat % 0x104C11DB7
    (0xFFFFFFFF < 0x104C11DB7 - r ↔ r ≤ 0x04C11DB7) ∧ (r = 0 ↔ p = 0)) ∧
  (∀ s : State, 2 ^ 32 * s.fvPayload.toNat % 0x104C11DB7 ≤ 0x04C11DB7 →
    ∃ t u, exec .enc s = .next t ∧ t.lastEncOvf = true ∧ t.err = s.err ||| 0x10#7 ∧ exec .dec t = .next u ∧
      (s.fvPayload.toNat % 2 = 0 →
        u.fvResult = { payload := s.fvPayload + 1, valid := true, src := false, decoded := true }) ∧
      (s.fvPayload.toNat % 2 = 1 → t.frame.toNat % 0x104C11DB7 = 0x04C11DB7 ∧
        u.fvResult = { payload := 0, valid := false, src := false, decoded := true }))

/-- R94: DEC, with the two outcomes of the decode step (R95), its corner cases and its example. -/
def Obligations.DecVerifiesFrame : Prop :=
  encode .dec = 0x00000002#32 ∧
  (∀ s : State,
    let v := 2 ^ 32 * s.frameHi.toNat + s.frameLo.toNat
    exec .dec s = .next (if v % 0x104C11DB7 = 0 then
      { s with
        fvResult := { payload := BitVec.ofNat 24 (v / 2 ^ 32), valid := true, src := false, decoded := true }
        acceptCnt := s.acceptCnt + 1 }
    else
      { s with
        fvResult := { payload := 0, valid := false, src := false, decoded := true }
        rejectCnt := s.rejectCnt + 1, err := s.err ||| 0x01#7, motYaw := 0, motFwd := 0, zeroCnt := s.zeroCnt + 1 })) ∧
  (∀ s : State, s.frameHi = 0 → s.frameLo = 0 → ∃ t, exec .dec s = .next t ∧ t.fvResult.valid = true ∧
    t.fvResult.payload = 0) ∧
  (∀ s : State, s.frameHi = 0xFFFFFF#24 → s.frameLo = 0xFFFFFFFF#32 → ∃ t, exec .dec s = .next t ∧
    t.fvResult.valid = false) ∧ (2 ^ 56 - 1) % 0x104C11DB7 = 1684015210 ∧
  (∀ s : State, s.frameHi = 0x123456#24 → s.frameLo = 0xF0F25232#32 → ∃ t, exec .dec s = .next t ∧
    readReg .fvResult t = 0x05123456#32)

/-- R95: the one decode step, with the FV_RESULT word of each outcome; DEC runs it on the frame registers with SRC 0, and
the seventh RXPUSH on the assembled frame with SRC 1, so that the two differ in SRC alone. -/
def Obligations.DecodeStepIsShared : Prop :=
  (∀ (s : State) (v : Frame) (src : Bool),
    let t := decodeFrame v src s
    if v.toNat % 0x104C11DB7 = 0 then
      t = { s with fvResult := t.fvResult, acceptCnt := s.acceptCnt + 1 } ∧
      (readReg .fvResult t).toNat = 2 ^ 26 + 2 ^ 25 * src.toNat + 2 ^ 24 + v.toNat / 2 ^ 32
    else
      t = { s with
        fvResult := t.fvResult, rejectCnt := s.rejectCnt + 1, err := s.err ||| 0x01#7, motYaw := 0, motFwd := 0
        zeroCnt := s.zeroCnt + 1 } ∧
      (readReg .fvResult t).toNat = 2 ^ 26 + 2 ^ 25 * src.toNat) ∧
  (∀ s : State, exec .dec s = .next (decodeFrame s.frame false s)) ∧
  (∀ (s : State) (b : Byte), s.rxCnt = 6#3 →
    let loaded : State :=
      { s with
        frameHi := (s.rxBuf ++ b).extractLsb' 32 24, frameLo := (s.rxBuf ++ b).extractLsb' 0 32, rxBuf := 0, rxCnt := 0 }
    exec (.rxpush b) s = .next (decodeFrame (s.rxBuf ++ b) true loaded) ∧
    ∃ t u, exec (.rxpush b) s = .next t ∧ exec .dec loaded = .next u ∧ u.fvResult.src = false ∧
      t = { u with fvResult := { u.fvResult with src := true } })

/-- R96: a rejected decode, by DEC or by the seventh RXPUSH, delivers nothing, sets CSUM_ERR, counts one rejection,
performs one zero event, changes nothing of the running task, and the next TICK writes the motors again as it would
have without the rejection. -/
def Obligations.RejectionZeroesMotorsOnce : Prop :=
  ∀ (s : State) (i : Instr) (v : Frame),
    ((i = .dec ∧ v = s.frame) ∨ (∃ b, i = .rxpush b ∧ s.rxCnt = 6#3 ∧ v = s.rxBuf ++ b)) →
    v.toNat % 0x104C11DB7 ≠ 0 →
    ∃ t, exec i s = .next t ∧ t.fvResult.payload = 0 ∧ t.fvResult.valid = false ∧ t.err = s.err ||| 0x01#7 ∧
      t.rejectCnt = s.rejectCnt + 1 ∧ t.acceptCnt = s.acceptCnt ∧ t.motYaw = 0 ∧ t.motFwd = 0 ∧
      t.zeroCnt = s.zeroCnt + 1 ∧ t.phase = s.phase ∧ t.inTol = s.inTol ∧ t.still = s.still ∧
      t.headDefaulted = s.headDefaulted ∧ t.fifo = s.fifo ∧ t.aPrev = s.aPrev ∧ t.vX = s.vX ∧ t.pX = s.pX ∧
      t.mcTarget = s.mcTarget ∧ t.taskDist = s.taskDist ∧
      (∀ u, s.phase ≠ .idle → exec .tick s = .next u → u.phase = s.phase →
        ∃ w, exec .tick t = .next w ∧ w.phase = u.phase ∧ w.motYaw = u.motYaw ∧ w.motFwd = u.motFwd)

/-- R97: ENC and then DEC returns the payload exactly when the check value did not overflow, for 16 471 315 payloads and
not for the other 305 901. -/
def Obligations.RoundTripExactlyWithoutOverflow : Prop :=
  (∀ s : State, ∃ t u, exec .enc s = .next t ∧ exec .dec t = .next u ∧
    ((u.fvResult.valid = true ∧ u.fvResult.payload = s.fvPayload) ↔
      0x104C11DB7 - 2 ^ 32 * s.fvPayload.toNat % 0x104C11DB7 ≤ 0xFFFFFFFF)) ∧
  {p : Payload | 0x104C11DB7 - 2 ^ 32 * p.toNat % 0x104C11DB7 ≤ 0xFFFFFFFF}.ncard = 16471315 ∧
  {p : Payload | 0xFFFFFFFF < 0x104C11DB7 - 2 ^ 32 * p.toNat % 0x104C11DB7}.ncard = 305901

/-- R98: each payload has at most one accepted frame; which payloads have one, and which frame it is; how many; the
first and the last payload that has none; and that neither DEC nor the seventh RXPUSH delivers such a payload (U22 of
spec/93_implementation_defined.md). -/
def Obligations.DeliverablePayloads : Prop :=
  (∀ v w : Frame, accepts v = true → accepts w = true → v.extractLsb' 32 24 = w.extractLsb' 32 24 → v = w) ∧
  (∀ p : Payload,
    let r := 2 ^ 32 * p.toNat % 0x104C11DB7
    ((∃ v : Frame, accepts v = true ∧ v.extractLsb' 32 24 = p) ↔ (r = 0 ∨ 0x04C11DB7 < r)) ∧
    (∀ v : Frame, accepts v = true → v.extractLsb' 32 24 = p →
      (v.extractLsb' 0 32).toNat = (0x104C11DB7 - r) % 0x104C11DB7)) ∧
  accepts 0 = true ∧
  {p : Payload | ¬ ∃ v : Frame, accepts v = true ∧ v.extractLsb' 32 24 = p}.ncard = 305900 ∧
  {v : Frame | accepts v = true}.ncard = 16471316 ∧
  (∀ p : Payload, (¬ ∃ v : Frame, accepts v = true ∧ v.extractLsb' 32 24 = p) → 0x36 ≤ p.toNat ∧ p.toNat ≤ 0xFFFFDE) ∧
  (¬ ∃ v : Frame, accepts v = true ∧ v.extractLsb' 32 24 = 0x000036#24) ∧
  (¬ ∃ v : Frame, accepts v = true ∧ v.extractLsb' 32 24 = 0xFFFFDE#24) ∧
  (∀ (s : State) (p : Payload), (¬ ∃ v : Frame, accepts v = true ∧ v.extractLsb' 32 24 = p) →
    (∃ t, exec .dec s = .next t ∧ ¬ (t.fvResult.valid = true ∧ t.fvResult.payload = p)) ∧
    (∀ b : Byte, s.rxCnt = 6#3 →
      ∃ t, exec (.rxpush b) s = .next t ∧ ¬ (t.fvResult.valid = true ∧ t.fvResult.payload = p)))

/-- R98 as a step lemma: a delivered payload is one that an accepted frame carries, after reset and after every step from
a state in which it is so, whatever the host presents. -/
def Obligations.StepDeliversOnlyAcceptedFrames : Prop :=
  State.reset.DeliveredByAcceptedFrame ∧
  ∀ s t : State, s.DeliveredByAcceptedFrame → step s = .next t → t.DeliveredByAcceptedFrame

/-- R99: changing any one bit, or any two distinct bits, of an accepted frame gives a frame that DEC rejects; `D` is not
prime. -/
def Obligations.OneAndTwoBitErrorsRejected : Prop :=
  (∀ (s : State) (k : Nat), accepts s.frame = true → k < 56 →
    ∃ t, exec .dec (s.writeFrame (s.frame ^^^ BitVec.twoPow 56 k)) = .next t ∧ t.fvResult.valid = false ∧
      t.err = s.err ||| 0x01#7) ∧
  (∀ (s : State) (j k : Nat), accepts s.frame = true → j < k → k < 56 →
    ∃ t, exec .dec (s.writeFrame (s.frame ^^^ BitVec.twoPow 56 j ^^^ BitVec.twoPow 56 k)) = .next t ∧
      t.fvResult.valid = false ∧ t.err = s.err ||| 0x01#7) ∧
  0x104C11DB7 = 5 * 7 * 29 * 4310081

/-- R100: RXPUSH, byte by byte and on the seventh byte; with no more bytes held than counted, the buffer's sum is
exact; ENC leaves the assembler alone; and the rule's example. -/
def Obligations.RxpushAssembles : Prop :=
  (∀ b : Byte, (encode (.rxpush b)).toNat = 0x00000003 + 256 * b.toNat) ∧
  (∀ (s : State) (b : Byte), s.rxCnt.toNat < 6 →
    exec (.rxpush b) s = .next { s with
      rxBuf := BitVec.ofNat 48 (s.rxBuf.toNat * 256 + b.toNat)
      rxCnt := BitVec.ofNat 3 (s.rxCnt.toNat + 1) } ∧
    (s.rxBuf.toNat < 256 ^ s.rxCnt.toNat → s.rxBuf.toNat * 256 + b.toNat < 2 ^ 48)) ∧
  (∀ (s : State) (b : Byte), ¬ s.rxCnt.toNat < 6 →
    let v := s.rxBuf.toNat * 256 + b.toNat
    exec (.rxpush b) s = .next (if v % 0x104C11DB7 = 0 then
      { s with
        frameHi := BitVec.ofNat 24 (v / 2 ^ 32), frameLo := BitVec.ofNat 32 v, rxBuf := 0, rxCnt := 0
        fvResult := { payload := BitVec.ofNat 24 (v / 2 ^ 32), valid := true, src := true, decoded := true }
        acceptCnt := s.acceptCnt + 1 }
    else
      { s with
        frameHi := BitVec.ofNat 24 (v / 2 ^ 32), frameLo := BitVec.ofNat 32 v, rxBuf := 0, rxCnt := 0
        fvResult := { payload := 0, valid := false, src := true, decoded := true }
        rejectCnt := s.rejectCnt + 1, err := s.err ||| 0x01#7, motYaw := 0, motFwd := 0, zeroCnt := s.zeroCnt + 1 })) ∧
  (∀ s t : State, exec .enc s = .next t → t.rxBuf = s.rxBuf ∧ t.rxCnt = s.rxCnt) ∧
  (∃ t : State, Host.Core.run Sys2Proof.core 7 { State.reset with
      pending := [0x0000FF03#32, 0x0000FF03#32, 0x0000FF03#32, 0x00009B03#32, 0x00009F03#32, 0x0000F703#32,
        0x00009503#32].map (.write (regAddr .cmd)) } = .next t ∧
    readReg .fvFrameHi t = 0x00FFFFFF#32 ∧ readReg .fvFrameLo t = 0x9B9FF795#32 ∧
    readReg .fvResult t = 0x07FFFFFF#32 ∧ t.rxCnt = 0)

/-- R101: RXFLUSH discards a partial frame and changes nothing else; with nothing held it changes nothing. -/
def Obligations.RxflushDiscards : Prop :=
  encode .rxflush = 0x00000004#32 ∧
  (∀ s : State, exec .rxflush s = .next { s with rxBuf := 0, rxCnt := 0 }) ∧
  (∀ s : State, s.Inv → s.rxCnt = 0 → exec .rxflush s = .next s)

/-- R51: the frame's bytes, most significant first, are the bytes of FV_FRAME_HI and FV_FRAME_LO as R27 maps them, and
seven RXPUSH commands with them, from an empty assembler, put the frame into those registers and decode it. -/
def Obligations.SevenPushesReceiveBigEndian : Prop :=
  (∀ s : State,
    wireByte s.frame 0 = s.frameHi.extractLsb' 16 8 ∧ wireByte s.frame 1 = s.frameHi.extractLsb' 8 8 ∧
    wireByte s.frame 2 = s.frameHi.extractLsb' 0 8 ∧ wireByte s.frame 3 = s.frameLo.extractLsb' 24 8 ∧
    wireByte s.frame 4 = s.frameLo.extractLsb' 16 8 ∧ wireByte s.frame 5 = s.frameLo.extractLsb' 8 8 ∧
    wireByte s.frame 6 = s.frameLo.extractLsb' 0 8) ∧
  (∀ (v : Frame) (k : Nat), k ≤ 6 → (wireByte v k).toNat = v.toNat / 2 ^ (48 - 8 * k) % 256) ∧
  (∀ (s : State) (v : Frame) (rest : List HostEvent), s.cfg.inRange = true → s.rxCnt = 0 → s.rxBuf = 0 →
    s.pending = (List.range 7).map (fun k => commandEvent (.rxpush (wireByte v k))) ++ rest →
    ∃ t : State, Host.Core.run Sys2Proof.core 7 s = .next t ∧ t.pending = rest ∧ t.frame = v ∧ t.rxCnt = 0 ∧
      t.fvResult = { payload := if accepts v then v.extractLsb' 32 24 else 0, valid := accepts v, src := true,
                     decoded := true })

/-! ## The motion controller (spec/41_motion_control.md) -/

/-- R120: the heading error's formula, its range, that it is a shortest signed rotation, its value at an exact half
turn, and the source's three values. -/
def Obligations.HeadingErrorIsShortestRotation : Prop :=
  (∀ t h : Int, headingError t h = (t - h + 180000) % 360000 - 180000 ∧
    -180000 ≤ headingError t h ∧ headingError t h ≤ 179999 ∧ (360000 : Int) ∣ (t - h) - headingError t h ∧
    (∀ z : Int, (360000 : Int) ∣ (t - h) - z → |headingError t h| ≤ |z|) ∧
    ((t - h) % 360000 = 180000 → headingError t h = -180000)) ∧
  headingError 350000 10000 = -20000 ∧ headingError 5000 355000 = 10000 ∧ headingError 355000 5000 = -10000

/-- R121: the bounded correction's formula and its two bands. -/
def Obligations.CorrectionBands : Prop :=
  ∀ e : Int, correction e = (if e < 0 then min (100000 + |e|) 125000 else min e 25000) ∧
    (0 ≤ e → 0 ≤ correction e ∧ correction e ≤ 25000) ∧
    (e < 0 → 100001 ≤ correction e ∧ correction e ≤ 125000) ∧
    ¬ (25001 ≤ correction e ∧ correction e ≤ 100000)

/-- R122: the noise gate, inclusive at 500. -/
def Obligations.NoiseGateInclusive : Prop :=
  (∀ a : Int, noiseGated a = if |a| ≤ 500 then 0 else a) ∧ noiseGated 500 = 0 ∧ noiseGated (-500) = 0 ∧
  noiseGated 501 = 501 ∧ noiseGated (-501) = -501

/-- R123: a zero event sets both motors to 0 and counts itself; exactly HALT, the rejection of a frame and the completion
of a task perform one, and only the reset input writes ZERO_CNT otherwise; a TICK that finds a sensor invalid in a running
phase sets both motors to 0 and counts nothing. -/
def Obligations.ZeroEventsOnlyAtThreePlaces : Prop :=
  (∀ s t : State, step s = .next t →
    let zeroEvent := ∃ w rest, s.pending = .write (regAddr .cmd) w :: rest ∧
      (decode w = .ok .halt ∨
       ((decode w = .ok .dec ∨ ∃ b, decode w = .ok (.rxpush b)) ∧ t.rejectCnt ≠ s.rejectCnt) ∨
       (decode w = .ok .tick ∧ t.doneCnt ≠ s.doneCnt))
    (zeroEvent → t.zeroCnt = s.zeroCnt + 1 ∧ t.motYaw = 0 ∧ t.motFwd = 0) ∧
    (¬ zeroEvent → t.zeroCnt = s.zeroCnt ∨ ∃ rest, s.pending = .reset :: rest ∧ t.zeroCnt = 0)) ∧
  (∀ s t : State, exec .tick s = .next t → t.rejectCnt = s.rejectCnt ∧
    ((s.phase = .turning ∧ s.sensValid.getLsbD 0 = false) ∨ (s.phase = .advancing ∧ s.sensValid ≠ 3#2) →
      t.motYaw = 0 ∧ t.motFwd = 0 ∧ t.zeroCnt = s.zeroCnt))

/-- R130: ENQ, full and not full; QCOUNT reads the new length; and the task `(0, 0)` of program P2 of
spec/95_test_vectors.md converges after four valid ticks. -/
def Obligations.EnqAppendsOrRaisesQfull : Prop :=
  encode .enq = 0x00000010#32 ∧
  (∀ s : State, s.fifo.length ≠ s.cfg.qDepth → ∃ t, exec .enq s = .next t ∧
    t = { s with fifo := s.fifo ++ [{ dist := s.mcDist, turn := s.mcTurn }] } ∧
    (readReg .mcState t).extractLsb' 2 4 = BitVec.ofNat 4 (s.fifo.length + 1)) ∧
  (∀ s : State, s.fifo.length = s.cfg.qDepth → exec .enq s = .next { s with err := s.err ||| 0x04#7 }) ∧
  (∃ t : State, Host.Core.run Sys2Proof.core 5 { State.reset with
      sensValid := 3, pending := commandEvent .enq :: List.replicate 4 (commandEvent .tick) } = .next t ∧
    t.phase = .idle ∧ t.fifo = [] ∧ t.doneCnt = 1)

/-- R131: HALT, in every state; MC_STATE then reads QCOUNT 0 and PHASE 0. -/
def Obligations.HaltStopsMotors : Prop :=
  encode .halt = 0x00000011#32 ∧
  (∀ s : State, exec .halt s = .next { s with
    fifo := [], phase := .idle, motYaw := 0, motFwd := 0, zeroCnt := s.zeroCnt + 1 }) ∧
  (∀ s t : State, exec .halt s = .next t → (readReg .mcState t).extractLsb' 0 6 = 0#6)

/-- R132: after HALT the motors stay 0 until a later ENQ has been followed by a TICK, whatever else the host does; and
the tasks queued before the HALT leave no trace. -/
def Obligations.HaltGuarantee : Prop :=
  (∀ (s : State) (w : Word) (before after rest : List HostEvent), s.cfg.inRange = true → decode w = .ok .halt →
    (∀ e ∈ before, ¬ issues .enq e) → (∀ e ∈ after, ¬ issues .tick e) →
    s.pending = .write (regAddr .cmd) w :: (before ++ after ++ rest) →
    ∃ t : State, Host.Core.run Sys2Proof.core (1 + before.length + after.length) s = .next t ∧ t.pending = rest ∧
      t.motYaw = 0 ∧ t.motFwd = 0) ∧
  (∀ (s : State) (tasks : List Task), exec .halt { s with fifo := tasks } = exec .halt s)

/-- R132 as a step lemma: HALT answers the halted state (IDLE, FIFO empty, motors 0); every step that issues no ENQ keeps
the halted state; and every step that issues no TICK keeps the motors 0 in IDLE. -/
def Obligations.StepKeepsHalted : Prop :=
  (∀ s : State, ∃ t, exec .halt s = .next t ∧ t.phase = .idle ∧ t.fifo = [] ∧ t.motorsStopped) ∧
  (∀ s t : State, s.phase = .idle → s.fifo = [] → s.motorsStopped →
    (∀ e rest, s.pending = e :: rest → ¬ issues .enq e) → step s = .next t →
    t.phase = .idle ∧ t.fifo = [] ∧ t.motorsStopped) ∧
  (∀ s t : State, s.phase = .idle → s.motorsStopped → (∀ e rest, s.pending = e :: rest → ¬ issues .tick e) →
    step s = .next t → t.phase = .idle ∧ t.motorsStopped)

/-- R225: a HALT after a TICK overwrites its motor values by zeros; a TICK after a HALT does nothing. -/
def Obligations.HaltAgainstTick : Prop :=
  ∀ s : State,
    (∃ t u, exec .tick s = .next t ∧ exec .halt t = .next u ∧ u.motYaw = 0 ∧ u.motFwd = 0) ∧
    (∃ t, exec .halt s = .next t ∧ exec .tick t = .next t)

/-- R146: TICK in IDLE with an empty FIFO changes nothing. -/
def Obligations.TickIdleDoesNothing : Prop :=
  encode .tick = 0x00000012#32 ∧ ∀ s : State, s.phase = .idle → s.fifo = [] → exec .tick s = .next s

/-- R141: a TICK in IDLE with a task queued starts the head task and runs its first Turning step in the same TICK. -/
def Obligations.TickStartsHeadTask : Prop :=
  ∀ (s : State) (task : Task) (rest : List Task), s.phase = .idle → s.fifo = task :: rest →
    let hv := s.sensValid.getLsbD 0
    let h : Int := if hv then s.sensHead.toInt else 0
    let started : State :=
      { s with
        fifo := rest
        headDefaulted := !hv
        err := if hv then s.err else s.err ||| 0x08#7
        mcTarget := BitVec.ofInt 32 ((h + task.turn.toInt) % 360000)
        taskDist := task.dist
        inTol := 0, still := 0, aPrev := 0, vX := 0, pX := 0
        phase := .turning }
    exec .tick s = exec .tick started ∧ (started.mcTarget.toNat : Int) = (h + task.turn.toInt) % 360000 ∧
    (readReg .mcState started).extractLsb' 2 4 = BitVec.ofNat 4 rest.length ∧ ∃ t, exec .tick s = .next t

/-- R142: a TICK in TURNING with a valid heading. -/
def Obligations.TickTurns : Prop :=
  ∀ s : State, s.phase = .turning → s.sensValid.getLsbD 0 = true → s.inTol.toNat ≤ 1 →
    let e := headingError s.mcTarget.toNat s.sensHead.toInt
    let n := if |e| ≤ 1000 then s.inTol.toNat + 1 else 0
    exec .tick s = .next (if n = 2 then { s with inTol := 0, phase := .advancing }
      else { s with inTol := BitVec.ofNat 2 n, motYaw := BitVec.ofInt 17 (correction e), motFwd := 0 })

/-- R143, R144: a TICK in TURNING with an invalid heading, or in ADVANCING with an invalid heading or acceleration, is a
hold. -/
def Obligations.TickHoldsWhileBlind : Prop :=
  ∀ s : State,
    ((s.phase = .turning ∧ s.sensValid.getLsbD 0 = false) ∨ (s.phase = .advancing ∧ s.sensValid ≠ 3#2)) →
    exec .tick s = .next { s with err := s.err ||| 0x08#7, inTol := 0, motYaw := 0, motFwd := 0 }

/-- R124, R145: a TICK in ADVANCING with both sensors valid: the dead-reckoning step, the distance test, and either Done
or the forward correction with the low-gain yaw hold. -/
def Obligations.TickAdvances : Prop :=
  ∀ s : State, s.phase = .advancing → s.sensValid = 3#2 → s.inTol.toNat ≤ 1 →
    let gate : Word → Int := fun a => if |a.toInt| ≤ 500 then 0 else a.toInt
    let clamp : Int → Int := fun v => max (-(2 ^ 63)) (min (2 ^ 63 - 1) v)
    let gx := gate s.sensAx
    let quiet : Bool := decide (gx = 0 ∧ gate s.sensAy = 0 ∧ gate s.sensAz = 0)
    let still := if quiet then min (s.still.toNat + 1) 5 else 0
    let vOld := s.vX.toInt
    let vSum := vOld + (s.aPrev.toInt + gx) * s.cfg.dtUs
    let vNew := if still = 5 then 0 else clamp vSum
    let pSum := s.pX.toInt + (vOld + vNew) * s.cfg.dtUs
    let clamped : Bool := decide ((still ≠ 5 ∧ clamp vSum ≠ vSum) ∨ clamp pSum ≠ pSum)
    let moved : State :=
      { s with
        still := BitVec.ofNat 3 still, aPrev := BitVec.ofInt 32 gx, vX := BitVec.ofInt 64 vNew
        pX := BitVec.ofInt 64 (clamp pSum), err := if clamped then s.err ||| 0x20#7 else s.err }
    let de : Int := s.taskDist.toNat - clamp pSum / 4000000000000
    let n := if |de| ≤ 100 then s.inTol.toNat + 1 else 0
    exec .tick s = .next (if n = 2 then
      { moved with
        inTol := 0, phase := .idle, motYaw := 0, motFwd := 0, zeroCnt := s.zeroCnt + 1, doneCnt := s.doneCnt + 1 }
    else
      { moved with
        inTol := BitVec.ofNat 2 n
        motFwd := BitVec.ofInt 17 (correction de)
        motYaw := BitVec.ofInt 17 (correction (headingError s.mcTarget.toNat s.sensHead.toInt / 2 ^ s.cfg.yawAdvShift)) })

/-- R150: HERR, with its corner cases and its example. -/
def Obligations.HerrEvaluates : Prop :=
  encode .herr = 0x00000020#32 ∧
  (∀ s : State,
    let e := (s.opa.toInt - s.opb.toInt + 180000) % 360000 - 180000
    ∃ t, exec .herr s = .next t ∧ t = { s with opres := BitVec.ofInt 32 e } ∧ t.opres.toInt = e) ∧
  (∀ s : State, s.opa = 0x80000000#32 → s.opb = 0x7FFFFFFF#32 →
    exec .herr s = .next { s with opres := 0xFFFD7281#32 }) ∧
  (∀ s : State, (s.opa.toInt - s.opb.toInt) % 360000 = 180000 →
    exec .herr s = .next { s with opres := 0xFFFD40E0#32 }) ∧
  (∀ s : State, s.opa = 350000#32 → s.opb = 10000#32 → exec .herr s = .next { s with opres := 0xFFFFB1E0#32 })

/-- R151: CORR, with its corner cases and its example. -/
def Obligations.CorrEvaluates : Prop :=
  encode .corr = 0x00000021#32 ∧
  (∀ s : State,
    let e := s.opa.toInt
    let c := if e < 0 then min (100000 + |e|) 125000 else min e 25000
    ∃ t, exec .corr s = .next t ∧ t = { s with opres := BitVec.ofInt 32 c } ∧ (t.opres.toNat : Int) = c) ∧
  (∀ s : State, s.opa = 0x80000000#32 → exec .corr s = .next { s with opres := 125000#32 }) ∧
  (∀ s : State, s.opa = 0#32 → exec .corr s = .next { s with opres := 0#32 }) ∧
  (∀ s : State, s.opa = 0xFFFFFFFF#32 → exec .corr s = .next { s with opres := 100001#32 }) ∧
  (∀ s : State, s.opa = 0xFFFFB1E0#32 → exec .corr s = .next { s with opres := 0x0001D4C0#32 })

/-- R152: HERR and CORR touch OPRES alone, in any phase, and the TICK after one does what it would have done without
it. -/
def Obligations.DiagnosticsDisturbNothing : Prop :=
  ∀ (s : State) (i : Instr), i = .herr ∨ i = .corr →
    ∃ t, exec i s = .next t ∧ { t with opres := s.opres } = s ∧
      ∀ u, exec .tick s = .next u → exec .tick t = .next { u with opres := t.opres }

/-- R142 over a run: with a valid heading in TURNING and a fresh count, a run of heading reads stays in TURNING as long as
no two consecutive reads are in tolerance, and the second of the first two consecutive in-tolerance reads ends TURNING,
leaving the motors as the read before it left them. -/
def Obligations.TurningEndsOnTwoConsecutiveReads : Prop :=
  (∀ (s : State) (hs : List Word), s.cfg.inRange = true → s.phase = .turning → s.sensValid.getLsbD 0 = true →
    s.inTol = 0 → s.pending = headingReads hs → NoTwoInARow (headingInTol s.mcTarget) hs →
    ∃ t : State, Host.Core.run Sys2Proof.core (2 * hs.length) s = .next t ∧ t.phase = .turning) ∧
  (∀ (s : State) (pre : List Word) (a b : Word), s.cfg.inRange = true → s.phase = .turning →
    s.sensValid.getLsbD 0 = true → s.inTol = 0 → s.pending = headingReads (pre ++ [a, b]) →
    NoTwoInARow (headingInTol s.mcTarget) (pre ++ [a]) → headingInTol s.mcTarget a → headingInTol s.mcTarget b →
    ∃ t : State, Host.Core.run Sys2Proof.core (2 * (pre.length + 2)) s = .next t ∧ t.phase = .advancing ∧
      t.inTol = 0 ∧ t.motFwd = 0 ∧
      t.motYaw = BitVec.ofInt 17 (correction (headingError s.mcTarget.toNat a.toInt)))

/-- R147: a task whose heading stays invalid holds in its phase, with its motors 0, for as many TICKs as the host
issues. -/
def Obligations.BlindTaskHoldsForEver : Prop :=
  ∀ (n : Nat) (s : State), s.cfg.inRange = true → s.phase ≠ .idle → s.sensValid.getLsbD 0 = false →
    s.pending = List.replicate (n + 1) (commandEvent .tick) →
    Host.Core.run Sys2Proof.core (n + 1) s =
      .next { s with err := s.err ||| 0x08#7, inTol := 0, motYaw := 0, motFwd := 0, pending := [] }

/-! ## The bus and the registers (spec/10_state.md, spec/20_memory.md) -/

/-- R53: a bus read. What the host receives is the model's field `readData` (log entry 4), and the host's accesses to come
are its field `pending` (log entry 3). -/
def Obligations.BusReadReturnsRegister : Prop :=
  ∀ (s : State) (a : WordAddr) (rest : List HostEvent), s.cfg.inRange = true → s.pending = .read a :: rest →
    (∀ r, 4 * a.toNat = regOffset r →
      step s = .next { s with pending := rest, readData := some (readReg r s) } ∧
      readReg r s &&& ~~~ (namedBits r) = 0#32) ∧
    (a = 0 → step s = .next { s with pending := rest, readData := some 0 }) ∧
    ((∀ r, 4 * a.toNat ≠ regOffset r) →
      step s = .next { s with err := s.err ||| 0x40#7, pending := rest, readData := some 0 })

/-- R54: a bus write, case by case, with the table of writable masks; and the register table of R22: the offset and the
access code of each register, and the words at which none is mapped. That a write leaves `readData` is log entry 4. -/
def Obligations.BusWriteByAccessCode : Prop :=
  (∀ (s : State) (a : WordAddr) (v : Word) (rest : List HostEvent), s.cfg.inRange = true →
    s.pending = .write a v :: rest →
    (a = 0 → step s = executeCommand v { s with pending := rest }) ∧
    (a = 1 → step s = .next { s with err := s.err &&& ~~~ (v.setWidth 7), pending := rest }) ∧
    (∀ r, 4 * a.toNat = regOffset r → regAccess r = .rw → ∃ t, step s = .next t ∧
      readReg r t = v &&& writableMask r ∧ (∀ r', r' ≠ r → readReg r' t = readReg r' s) ∧ t.fifo = s.fifo ∧
      t.rxBuf = s.rxBuf ∧ t.aPrev = s.aPrev ∧ t.vX = s.vX ∧ t.pX = s.pX ∧ t.readData = s.readData ∧
      t.cfg = s.cfg ∧ t.pending = rest) ∧
    (∀ r, 4 * a.toNat = regOffset r → regAccess r = .ro →
      step s = .next { s with err := s.err ||| 0x40#7, pending := rest }) ∧
    ((∀ r, 4 * a.toNat ≠ regOffset r) → step s = .next { s with err := s.err ||| 0x40#7, pending := rest })) ∧
  writableMask .fvPayload = 0x00FFFFFF#32 ∧ writableMask .fvFrameHi = 0x00FFFFFF#32 ∧
  writableMask .fvFrameLo = 0xFFFFFFFF#32 ∧ writableMask .mcDist = 0x000FFFFF#32 ∧
  writableMask .sensValid = 0x00000003#32 ∧
  (∀ r ∈ [Reg.mcTurn, .opa, .opb, .sensHead, .sensAx, .sensAy, .sensAz], writableMask r = 0xFFFFFFFF#32) ∧
  (∀ row ∈ ([(.cmd, 0x00, .wo), (.err, 0x04, .w1c), (.fvPayload, 0x08, .rw), (.fvFrameHi, 0x0C, .rw),
      (.fvFrameLo, 0x10, .rw), (.fvResult, 0x14, .ro), (.fvStat, 0x18, .ro), (.fvCount, 0x1C, .ro),
      (.mcDist, 0x20, .rw), (.mcTurn, 0x24, .rw), (.mcState, 0x28, .ro), (.mcTarget, 0x2C, .ro), (.mcPos, 0x30, .ro),
      (.mcVel, 0x34, .ro), (.motYaw, 0x38, .ro), (.motFwd, 0x3C, .ro), (.zeroCnt, 0x40, .ro), (.doneCnt, 0x44, .ro),
      (.opa, 0x48, .rw), (.opb, 0x4C, .rw), (.opres, 0x50, .ro), (.mcTaskDist, 0x54, .ro), (.sensHead, 0x60, .rw),
      (.sensAx, 0x64, .rw), (.sensAy, 0x68, .rw), (.sensAz, 0x6C, .rw), (.sensValid, 0x70, .rw)] :
      List (Reg × Nat × Access)),
    regOffset row.1 = row.2.1 ∧ regAccess row.1 = row.2.2) ∧
  (∀ a : WordAddr, (∀ r, 4 * a.toNat ≠ regOffset r) ↔
    4 * a.toNat = 0x58 ∨ 4 * a.toNat = 0x5C ∨ (0x74 ≤ 4 * a.toNat ∧ 4 * a.toNat ≤ 0xFC))

/-- R23: reserved bits read as 0, and a write to them is ignored and raises no error. -/
def Obligations.ReservedBitsReadZeroIgnoreWrites : Prop :=
  (∀ (r : Reg) (s : State), readReg r s &&& ~~~ (namedBits r) = 0#32) ∧
  (∀ (r : Reg) (s : State) (v v' : Word), regAccess r = .rw ∨ regAccess r = .w1c →
    v &&& namedBits r = v' &&& namedBits r → busWrite (regAddr r) v s = busWrite (regAddr r) v' s) ∧
  (∀ (r : Reg) (s : State) (v : Word), regAccess r = .rw ∨ regAccess r = .w1c →
    ∃ t, busWrite (regAddr r) v s = .next t ∧ t.err &&& ~~~ s.err = 0#7)

/-- R56: which accesses are idempotent and which are not. -/
def Obligations.AccessIdempotency : Prop :=
  (∀ (s : State) (a : WordAddr), busRead a (busRead a s) = busRead a s) ∧
  (∀ (r : Reg) (s : State), { busRead (regAddr r) s with readData := s.readData } = s) ∧
  (∀ (r : Reg) (s : State) (v : Word), regAccess r = .rw ∨ regAccess r = .w1c →
    ∃ t, busWrite (regAddr r) v s = .next t ∧ busWrite (regAddr r) v t = .next t) ∧
  (∀ i, i = .enq ∨ i = .tick ∨ i = .rxpush 0x00#8 ∨ i = .dec ∨ i = .halt → ∃ s t u : State,
    busWrite (regAddr .cmd) (encode i) s = .next t ∧ busWrite (regAddr .cmd) (encode i) t = .next u ∧ t ≠ u)

/-- R184: one access raises at most one flag; which access raises which. Nothing but the W1C write of ERR and the reset
input clears one (R25). -/
def Obligations.AtMostOneFlagPerAccess : Prop :=
  (∀ s t : State, step s = .next t →
    t.err = s.err ∨
    (∃ v rest, s.pending = .write (regAddr .err) v :: rest ∧ t.err = s.err &&& ~~~ (v.setWidth 7)) ∨
    (∃ rest, s.pending = .reset :: rest ∧ t.err = 0) ∨
    (t.err = s.err ||| 0x40#7 ∧ ∃ a rest, s.pending = .read a :: rest ∧ ∀ r, 4 * a.toNat ≠ regOffset r) ∨
    (t.err = s.err ||| 0x40#7 ∧ ∃ a v rest, s.pending = .write a v :: rest ∧
      ∀ r, 4 * a.toNat = regOffset r → regAccess r = .ro) ∨
    (t.err = s.err ||| 0x02#7 ∧ ∃ w e rest, s.pending = .write (regAddr .cmd) w :: rest ∧ decode w = .error e) ∨
    (∃ w i rest, s.pending = .write (regAddr .cmd) w :: rest ∧ decode w = .ok i ∧
      exec i { s with pending := rest } = .next t)) ∧
  (∀ (s t : State) (i : Instr), exec i s = .next t →
    t.err = s.err ∨
    (t.err = s.err ||| 0x01#7 ∧ (i = .dec ∨ ∃ b, i = .rxpush b)) ∨
    (t.err = s.err ||| 0x04#7 ∧ i = .enq) ∨
    (t.err = s.err ||| 0x08#7 ∧ i = .tick ∧ (s.phase = .advancing →
      t.still = s.still ∧ t.aPrev = s.aPrev ∧ t.vX = s.vX ∧ t.pX = s.pX)) ∨
    (t.err = s.err ||| 0x10#7 ∧ i = .enc) ∨
    (t.err = s.err ||| 0x20#7 ∧ i = .tick ∧ s.phase = .advancing ∧ s.sensValid = 3#2))

/-- R35: MC_POS is the floor of the position in mm, and it always fits 32 bits. -/
def Obligations.McPosAlwaysFits : Prop :=
  ∀ s : State, (readReg .mcPos s).toInt = s.pX.toInt / 4000000000000 ∧
    -(2 ^ 22) ≤ s.pX.toInt / 4000000000000 ∧ s.pX.toInt / 4000000000000 < 2 ^ 22

/-- R36: MC_VEL is the floor of the velocity in mm/s, clamped to 32 bits. -/
def Obligations.McVelSaturates : Prop :=
  ∀ s : State, (readReg .mcVel s).toInt = max (-(2 ^ 31)) (min (2 ^ 31 - 1) (s.vX.toInt / 2000000))

/-- R24 to R34 and R37 to R43: each register reads the field of the state that bears its name, each field at its bits and
every other bit 0; the output ports always equal MOT_YAW and MOT_FWD (R21, R37). MC_POS and MC_VEL have their own
statements. -/
def Obligations.StatusRegisterFields : Prop :=
  ∀ s : State,
    (readReg .fvResult s).extractLsb' 0 24 = s.fvResult.payload ∧
    (readReg .fvResult s).getLsbD 24 = s.fvResult.valid ∧ (readReg .fvResult s).getLsbD 25 = s.fvResult.src ∧
    (readReg .fvResult s).getLsbD 26 = s.fvResult.decoded ∧
    (readReg .fvStat s).extractLsb' 0 3 = s.rxCnt ∧ (readReg .fvStat s).getLsbD 3 = s.lastEncOvf ∧
    (readReg .fvCount s).extractLsb' 0 16 = s.acceptCnt ∧ (readReg .fvCount s).extractLsb' 16 16 = s.rejectCnt ∧
    (readReg .mcState s).extractLsb' 0 2 =
      (match s.phase with | .idle => 0#2 | .turning => 1#2 | .advancing => 2#2) ∧
    (readReg .mcState s).extractLsb' 2 4 = BitVec.ofNat 4 s.fifo.length ∧
    (readReg .mcState s).extractLsb' 6 2 = s.inTol ∧ (readReg .mcState s).extractLsb' 8 3 = s.still ∧
    (readReg .mcState s).getLsbD 11 = s.headDefaulted ∧
    readReg .cmd s = 0#32 ∧ (readReg .err s).toNat = s.err.toNat ∧
    (readReg .fvPayload s).toNat = s.fvPayload.toNat ∧ (readReg .fvFrameHi s).toNat = s.frameHi.toNat ∧
    readReg .fvFrameLo s = s.frameLo ∧ (readReg .mcDist s).toNat = s.mcDist.toNat ∧ readReg .mcTurn s = s.mcTurn ∧
    readReg .mcTarget s = s.mcTarget ∧ (readReg .mcTaskDist s).toNat = s.taskDist.toNat ∧
    (readReg .motYaw s).toNat = s.motYaw.toNat ∧ (readReg .motFwd s).toNat = s.motFwd.toNat ∧
    readReg .zeroCnt s = s.zeroCnt ∧ readReg .doneCnt s = s.doneCnt ∧ readReg .opa s = s.opa ∧
    readReg .opb s = s.opb ∧ readReg .opres s = s.opres ∧ readReg .sensHead s = s.sensHead ∧
    readReg .sensAx s = s.sensAx ∧ readReg .sensAy s = s.sensAy ∧ readReg .sensAz s = s.sensAz ∧
    (readReg .sensValid s).toNat = s.sensValid.toNat ∧
    motYawPort s = s.motYaw ∧ motFwdPort s = s.motFwd ∧
    (motYawPort s).toNat = (readReg .motYaw s).toNat ∧ (motFwdPort s).toNat = (readReg .motFwd s).toNat

/-- R77: the statements of `task d, t`, run from a machine with room in its FIFO, queue the task; those of
`herr_of a, b` evaluate HERR. -/
def Obligations.PseudoInstructionsRun : Prop :=
  (∀ (s : State) (d t : Int) (rest : List HostEvent), s.cfg.inRange = true → s.fifo.length < s.cfg.qDepth →
    0 ≤ d → d < 2 ^ 20 → asmValueOk t = true → s.pending = pseudoEvents (.task d t) ++ rest →
    ∃ u : State, Host.Core.run Sys2Proof.core 3 s = .next u ∧ u.pending = rest ∧
      u.fifo = s.fifo ++ [{ dist := BitVec.ofInt 20 d, turn := BitVec.ofInt 32 t }] ∧ u.err = s.err) ∧
  (∀ (s : State) (a b : Int) (rest : List HostEvent), s.cfg.inRange = true → -(2 ^ 31) ≤ a → a < 2 ^ 31 →
    -(2 ^ 31) ≤ b → b < 2 ^ 31 → s.pending = pseudoEvents (.herrOf a b) ++ rest →
    ∃ u : State, Host.Core.run Sys2Proof.core 3 s = .next u ∧ u.pending = rest ∧
      u.opres.toInt = headingError a b)

/-! ## The whole machine (spec/10_state.md R48, spec/70_reset_and_hazards.md) -/

/-- R211: the reset input sets every register and every internal element to 0, the output ports with them; the state
before the first access is the same. -/
def Obligations.ResetSetsEverything : Prop :=
  (∀ (s : State) (rest : List HostEvent), s.cfg.inRange = true → s.pending = .reset :: rest →
    ∃ t, step s = .next t ∧ (∀ r, readReg r t = 0#32) ∧ t.fifo = [] ∧ t.rxBuf = 0 ∧ t.aPrev = 0 ∧ t.vX = 0 ∧
      t.pX = 0 ∧ motYawPort t = 0 ∧ motFwdPort t = 0) ∧
  (∀ r, readReg r State.reset = 0#32) ∧ State.reset.fifo = [] ∧ State.reset.rxBuf = 0 ∧ State.reset.aPrev = 0 ∧
  State.reset.vX = 0 ∧ State.reset.pX = 0

/-- The MODEL's choice, not a rule of the spec: the reset input leaves the three fields of the model's own, which are not
the machine's state: the parameters (log entry 1; R213), the host's events still to come (log entry 3) and what the host has
read (log entry 4). -/
def Obligations.ResetLeavesTheHostsFields : Prop :=
  ∀ (s : State) (rest : List HostEvent), s.cfg.inRange = true → s.pending = .reset :: rest →
    ∃ t, step s = .next t ∧ t.cfg = s.cfg ∧ t.pending = rest ∧ t.readData = s.readData

/-- R192: between accesses FVMC does nothing and keeps all its state. -/
def Obligations.NoAccessNoChange : Prop :=
  ∀ s : State, s.cfg.inRange = true → s.pending = [] → step s = .next s

/-- R213: no access and no reset changes a parameter. -/
def Obligations.ParametersNeverChange : Prop :=
  ∀ s t : State, step s = .next t → t.cfg = s.cfg

/-- D39: FVMC_BASE affects no rule: a machine at another base takes the same step. -/
def Obligations.BaseAddressAffectsNoRule : Prop :=
  ∀ (s t : State) (base : Nat), base % 4 = 0 → step s = .next t →
    step { s with cfg := { s.cfg with fvmcBase := base } } = .next { t with cfg := { t.cfg with fvmcBase := base } }

/-- The invariant of R48 and R44 holds after reset. -/
def Obligations.InvariantAtReset : Prop := State.reset.Inv

/-- Every step keeps the invariant of R48 and R44, from every state that has it. -/
def Obligations.StepKeepsInvariant : Prop :=
  ∀ s t : State, s.Inv → step s = .next t → t.Inv

/-- R48: its eight items hold after every step, for every configuration and whatever the host presents from reset on,
as the registers read them. -/
def Obligations.ReachableStatesLegal : Prop :=
  ∀ (cfg : Config.Params) (events : List HostEvent) (n : Nat) (t : State), cfg.inRange = true →
    Host.Core.run Sys2Proof.core n { State.reset with cfg := cfg, pending := events } = .next t →
    ((readReg .mcState t).extractLsb' 0 2).toNat ≤ 2 ∧
    ((readReg .mcState t).extractLsb' 2 4).toNat = t.fifo.length ∧ t.fifo.length ≤ cfg.qDepth ∧
    ((readReg .mcState t).extractLsb' 6 2).toNat ≤ 1 ∧ ((readReg .mcState t).extractLsb' 8 3).toNat ≤ 5 ∧
    (readReg .mcTarget t).toNat ≤ 359999 ∧ ((readReg .fvStat t).extractLsb' 0 3).toNat ≤ 6 ∧
    ((readReg .mcState t).extractLsb' 0 2 = 0#2 → readReg .motYaw t = 0#32 ∧ readReg .motFwd t = 0#32) ∧
    (∀ r, r = .motYaw ∨ r = .motFwd → (readReg r t).toNat ≤ 25000 ∨
      (100001 ≤ (readReg r t).toNat ∧ (readReg r t).toNat ≤ 125000))
end

