-- ==== Sys2Proof/Laws/Arith.lean ====
section
/-! SUPPORT. What the fitting functions of R11 and the pure functions of the motion controller give. -/

namespace Sys2Proof.Machine

/-- `fdiv` is the floor: the quotient's multiple is at most `a`, and less than one divisor below it (R11). -/
theorem fdiv_floor (a : Int) {b : Int} (hb : 0 < b) : b * fdiv a b ≤ a ∧ a < b * fdiv a b + b := by
  have h := Int.mul_ediv_add_emod a b
  have h0 := Int.emod_nonneg a hb.ne'
  have h1 := Int.emod_lt_of_pos a hb
  unfold fdiv
  constructor <;> omega

theorem fmod_eq_emod (a b : Int) : fmod a b = a % b := by
  have h := Int.mul_ediv_add_emod a b
  unfold fmod fdiv
  omega

/-- `fmod(a, b)` is always in `[0, b)` (R11). -/
theorem fmod_range (a : Int) {b : Int} (hb : 0 < b) : 0 ≤ fmod a b ∧ fmod a b < b := by
  rw [fmod_eq_emod]
  exact ⟨Int.emod_nonneg a hb.ne', Int.emod_lt_of_pos a hb⟩

theorem satS64_range (v : Int) : -(2 ^ 63) ≤ satS64 v ∧ satS64 v ≤ 2 ^ 63 - 1 := by
  unfold satS64
  omega

theorem satS64_of_fits {v : Int} (h : -(2 ^ 63) ≤ v ∧ v ≤ 2 ^ 63 - 1) : satS64 v = v := by
  unfold satS64
  omega

theorem satS32_range (v : Int) : -(2 ^ 31) ≤ satS32 v ∧ satS32 v ≤ 2 ^ 31 - 1 := by
  unfold satS32
  omega

theorem absInt_nonneg (v : Int) : 0 ≤ absInt v := by
  unfold absInt
  split <;> omega

/-- The three cases of `corr` (R121). -/
theorem correction_cases (e : Int) :
    (e < 0 ∧ correction e = min (100000 - e) 125000) ∨ (0 ≤ e ∧ correction e = min e 25000) := by
  unfold correction absInt Config.bandOffset Config.maxCorr
  split
  · left; constructor <;> omega
  · right; constructor <;> omega

/-- A clamped accumulator is read back exactly from its 64-bit field (R46, R124). -/
theorem sext_ofInt_satS64 (v : Int) : sext (BitVec.ofInt 64 (satS64 v)) = satS64 v := by
  have h := satS64_range v
  unfold sext
  rw [BitVec.toInt_ofInt, Int.bmod_eq_of_le (by omega) (by omega)]

/-- A gated 32-bit sample is read back exactly from the field `a_prev` (R46, R122). -/
theorem sext_ofInt_noiseGated (a : Word) : sext (BitVec.ofInt 32 (noiseGated (sext a))) = noiseGated (sext a) := by
  have h := BitVec.toInt_lt (x := a)
  have h' := BitVec.le_toInt (x := a)
  have hr : -(2 ^ 31) ≤ noiseGated (sext a) ∧ noiseGated (sext a) < 2 ^ 31 := by
    unfold noiseGated sext
    split <;> omega
  generalize noiseGated (sext a) = g at hr ⊢
  unfold sext
  rw [BitVec.toInt_ofInt, Int.bmod_eq_of_le (by omega) (by omega)]

end Sys2Proof.Machine
end

