-- ==== Sys2Proof/Laws/State.lean ====
section
/-! SUPPORT. One lemma per field per named update of State (Machine/Ops.lean), true by rfl, so that no proof unfolds a
record update. -/

namespace Sys2Proof.Machine

variable (s : State)

@[simp] theorem State.raiseWhen_cfg (c : Bool) (f : ErrFlag) : (s.raiseWhen c f).cfg = s.cfg := rfl
@[simp] theorem State.raiseWhen_err (c : Bool) (f : ErrFlag) : (s.raiseWhen c f).err = if c then s.err ||| f.mask else s.err := rfl
@[simp] theorem State.raiseWhen_fvPayload (c : Bool) (f : ErrFlag) : (s.raiseWhen c f).fvPayload = s.fvPayload := rfl
@[simp] theorem State.raiseWhen_frameHi (c : Bool) (f : ErrFlag) : (s.raiseWhen c f).frameHi = s.frameHi := rfl
@[simp] theorem State.raiseWhen_frameLo (c : Bool) (f : ErrFlag) : (s.raiseWhen c f).frameLo = s.frameLo := rfl
@[simp] theorem State.raiseWhen_fvResult (c : Bool) (f : ErrFlag) : (s.raiseWhen c f).fvResult = s.fvResult := rfl
@[simp] theorem State.raiseWhen_rxCnt (c : Bool) (f : ErrFlag) : (s.raiseWhen c f).rxCnt = s.rxCnt := rfl
@[simp] theorem State.raiseWhen_lastEncOvf (c : Bool) (f : ErrFlag) : (s.raiseWhen c f).lastEncOvf = s.lastEncOvf := rfl
@[simp] theorem State.raiseWhen_rxBuf (c : Bool) (f : ErrFlag) : (s.raiseWhen c f).rxBuf = s.rxBuf := rfl
@[simp] theorem State.raiseWhen_acceptCnt (c : Bool) (f : ErrFlag) : (s.raiseWhen c f).acceptCnt = s.acceptCnt := rfl
@[simp] theorem State.raiseWhen_rejectCnt (c : Bool) (f : ErrFlag) : (s.raiseWhen c f).rejectCnt = s.rejectCnt := rfl
@[simp] theorem State.raiseWhen_mcDist (c : Bool) (f : ErrFlag) : (s.raiseWhen c f).mcDist = s.mcDist := rfl
@[simp] theorem State.raiseWhen_mcTurn (c : Bool) (f : ErrFlag) : (s.raiseWhen c f).mcTurn = s.mcTurn := rfl
@[simp] theorem State.raiseWhen_phase (c : Bool) (f : ErrFlag) : (s.raiseWhen c f).phase = s.phase := rfl
@[simp] theorem State.raiseWhen_inTol (c : Bool) (f : ErrFlag) : (s.raiseWhen c f).inTol = s.inTol := rfl
@[simp] theorem State.raiseWhen_still (c : Bool) (f : ErrFlag) : (s.raiseWhen c f).still = s.still := rfl
@[simp] theorem State.raiseWhen_headDefaulted (c : Bool) (f : ErrFlag) : (s.raiseWhen c f).headDefaulted = s.headDefaulted := rfl
@[simp] theorem State.raiseWhen_fifo (c : Bool) (f : ErrFlag) : (s.raiseWhen c f).fifo = s.fifo := rfl
@[simp] theorem State.raiseWhen_mcTarget (c : Bool) (f : ErrFlag) : (s.raiseWhen c f).mcTarget = s.mcTarget := rfl
@[simp] theorem State.raiseWhen_taskDist (c : Bool) (f : ErrFlag) : (s.raiseWhen c f).taskDist = s.taskDist := rfl
@[simp] theorem State.raiseWhen_aPrev (c : Bool) (f : ErrFlag) : (s.raiseWhen c f).aPrev = s.aPrev := rfl
@[simp] theorem State.raiseWhen_vX (c : Bool) (f : ErrFlag) : (s.raiseWhen c f).vX = s.vX := rfl
@[simp] theorem State.raiseWhen_pX (c : Bool) (f : ErrFlag) : (s.raiseWhen c f).pX = s.pX := rfl
@[simp] theorem State.raiseWhen_motYaw (c : Bool) (f : ErrFlag) : (s.raiseWhen c f).motYaw = s.motYaw := rfl
@[simp] theorem State.raiseWhen_motFwd (c : Bool) (f : ErrFlag) : (s.raiseWhen c f).motFwd = s.motFwd := rfl
@[simp] theorem State.raiseWhen_zeroCnt (c : Bool) (f : ErrFlag) : (s.raiseWhen c f).zeroCnt = s.zeroCnt := rfl
@[simp] theorem State.raiseWhen_doneCnt (c : Bool) (f : ErrFlag) : (s.raiseWhen c f).doneCnt = s.doneCnt := rfl
@[simp] theorem State.raiseWhen_opa (c : Bool) (f : ErrFlag) : (s.raiseWhen c f).opa = s.opa := rfl
@[simp] theorem State.raiseWhen_opb (c : Bool) (f : ErrFlag) : (s.raiseWhen c f).opb = s.opb := rfl
@[simp] theorem State.raiseWhen_opres (c : Bool) (f : ErrFlag) : (s.raiseWhen c f).opres = s.opres := rfl
@[simp] theorem State.raiseWhen_sensHead (c : Bool) (f : ErrFlag) : (s.raiseWhen c f).sensHead = s.sensHead := rfl
@[simp] theorem State.raiseWhen_sensAx (c : Bool) (f : ErrFlag) : (s.raiseWhen c f).sensAx = s.sensAx := rfl
@[simp] theorem State.raiseWhen_sensAy (c : Bool) (f : ErrFlag) : (s.raiseWhen c f).sensAy = s.sensAy := rfl
@[simp] theorem State.raiseWhen_sensAz (c : Bool) (f : ErrFlag) : (s.raiseWhen c f).sensAz = s.sensAz := rfl
@[simp] theorem State.raiseWhen_sensValid (c : Bool) (f : ErrFlag) : (s.raiseWhen c f).sensValid = s.sensValid := rfl
@[simp] theorem State.raiseWhen_pending (c : Bool) (f : ErrFlag) : (s.raiseWhen c f).pending = s.pending := rfl
@[simp] theorem State.raiseWhen_readData (c : Bool) (f : ErrFlag) : (s.raiseWhen c f).readData = s.readData := rfl

@[simp] theorem State.raise_cfg (f : ErrFlag) : (s.raise f).cfg = s.cfg := rfl
@[simp] theorem State.raise_err (f : ErrFlag) : (s.raise f).err = s.err ||| f.mask := rfl
@[simp] theorem State.raise_fvPayload (f : ErrFlag) : (s.raise f).fvPayload = s.fvPayload := rfl
@[simp] theorem State.raise_frameHi (f : ErrFlag) : (s.raise f).frameHi = s.frameHi := rfl
@[simp] theorem State.raise_frameLo (f : ErrFlag) : (s.raise f).frameLo = s.frameLo := rfl
@[simp] theorem State.raise_fvResult (f : ErrFlag) : (s.raise f).fvResult = s.fvResult := rfl
@[simp] theorem State.raise_rxCnt (f : ErrFlag) : (s.raise f).rxCnt = s.rxCnt := rfl
@[simp] theorem State.raise_lastEncOvf (f : ErrFlag) : (s.raise f).lastEncOvf = s.lastEncOvf := rfl
@[simp] theorem State.raise_rxBuf (f : ErrFlag) : (s.raise f).rxBuf = s.rxBuf := rfl
@[simp] theorem State.raise_acceptCnt (f : ErrFlag) : (s.raise f).acceptCnt = s.acceptCnt := rfl
@[simp] theorem State.raise_rejectCnt (f : ErrFlag) : (s.raise f).rejectCnt = s.rejectCnt := rfl
@[simp] theorem State.raise_mcDist (f : ErrFlag) : (s.raise f).mcDist = s.mcDist := rfl
@[simp] theorem State.raise_mcTurn (f : ErrFlag) : (s.raise f).mcTurn = s.mcTurn := rfl
@[simp] theorem State.raise_phase (f : ErrFlag) : (s.raise f).phase = s.phase := rfl
@[simp] theorem State.raise_inTol (f : ErrFlag) : (s.raise f).inTol = s.inTol := rfl
@[simp] theorem State.raise_still (f : ErrFlag) : (s.raise f).still = s.still := rfl
@[simp] theorem State.raise_headDefaulted (f : ErrFlag) : (s.raise f).headDefaulted = s.headDefaulted := rfl
@[simp] theorem State.raise_fifo (f : ErrFlag) : (s.raise f).fifo = s.fifo := rfl
@[simp] theorem State.raise_mcTarget (f : ErrFlag) : (s.raise f).mcTarget = s.mcTarget := rfl
@[simp] theorem State.raise_taskDist (f : ErrFlag) : (s.raise f).taskDist = s.taskDist := rfl
@[simp] theorem State.raise_aPrev (f : ErrFlag) : (s.raise f).aPrev = s.aPrev := rfl
@[simp] theorem State.raise_vX (f : ErrFlag) : (s.raise f).vX = s.vX := rfl
@[simp] theorem State.raise_pX (f : ErrFlag) : (s.raise f).pX = s.pX := rfl
@[simp] theorem State.raise_motYaw (f : ErrFlag) : (s.raise f).motYaw = s.motYaw := rfl
@[simp] theorem State.raise_motFwd (f : ErrFlag) : (s.raise f).motFwd = s.motFwd := rfl
@[simp] theorem State.raise_zeroCnt (f : ErrFlag) : (s.raise f).zeroCnt = s.zeroCnt := rfl
@[simp] theorem State.raise_doneCnt (f : ErrFlag) : (s.raise f).doneCnt = s.doneCnt := rfl
@[simp] theorem State.raise_opa (f : ErrFlag) : (s.raise f).opa = s.opa := rfl
@[simp] theorem State.raise_opb (f : ErrFlag) : (s.raise f).opb = s.opb := rfl
@[simp] theorem State.raise_opres (f : ErrFlag) : (s.raise f).opres = s.opres := rfl
@[simp] theorem State.raise_sensHead (f : ErrFlag) : (s.raise f).sensHead = s.sensHead := rfl
@[simp] theorem State.raise_sensAx (f : ErrFlag) : (s.raise f).sensAx = s.sensAx := rfl
@[simp] theorem State.raise_sensAy (f : ErrFlag) : (s.raise f).sensAy = s.sensAy := rfl
@[simp] theorem State.raise_sensAz (f : ErrFlag) : (s.raise f).sensAz = s.sensAz := rfl
@[simp] theorem State.raise_sensValid (f : ErrFlag) : (s.raise f).sensValid = s.sensValid := rfl
@[simp] theorem State.raise_pending (f : ErrFlag) : (s.raise f).pending = s.pending := rfl
@[simp] theorem State.raise_readData (f : ErrFlag) : (s.raise f).readData = s.readData := rfl

@[simp] theorem State.clearErr_cfg (v : Word) : (s.clearErr v).cfg = s.cfg := rfl
@[simp] theorem State.clearErr_err (v : Word) : (s.clearErr v).err = s.err &&& ~~~ (v.setWidth 7) := rfl
@[simp] theorem State.clearErr_fvPayload (v : Word) : (s.clearErr v).fvPayload = s.fvPayload := rfl
@[simp] theorem State.clearErr_frameHi (v : Word) : (s.clearErr v).frameHi = s.frameHi := rfl
@[simp] theorem State.clearErr_frameLo (v : Word) : (s.clearErr v).frameLo = s.frameLo := rfl
@[simp] theorem State.clearErr_fvResult (v : Word) : (s.clearErr v).fvResult = s.fvResult := rfl
@[simp] theorem State.clearErr_rxCnt (v : Word) : (s.clearErr v).rxCnt = s.rxCnt := rfl
@[simp] theorem State.clearErr_lastEncOvf (v : Word) : (s.clearErr v).lastEncOvf = s.lastEncOvf := rfl
@[simp] theorem State.clearErr_rxBuf (v : Word) : (s.clearErr v).rxBuf = s.rxBuf := rfl
@[simp] theorem State.clearErr_acceptCnt (v : Word) : (s.clearErr v).acceptCnt = s.acceptCnt := rfl
@[simp] theorem State.clearErr_rejectCnt (v : Word) : (s.clearErr v).rejectCnt = s.rejectCnt := rfl
@[simp] theorem State.clearErr_mcDist (v : Word) : (s.clearErr v).mcDist = s.mcDist := rfl
@[simp] theorem State.clearErr_mcTurn (v : Word) : (s.clearErr v).mcTurn = s.mcTurn := rfl
@[simp] theorem State.clearErr_phase (v : Word) : (s.clearErr v).phase = s.phase := rfl
@[simp] theorem State.clearErr_inTol (v : Word) : (s.clearErr v).inTol = s.inTol := rfl
@[simp] theorem State.clearErr_still (v : Word) : (s.clearErr v).still = s.still := rfl
@[simp] theorem State.clearErr_headDefaulted (v : Word) : (s.clearErr v).headDefaulted = s.headDefaulted := rfl
@[simp] theorem State.clearErr_fifo (v : Word) : (s.clearErr v).fifo = s.fifo := rfl
@[simp] theorem State.clearErr_mcTarget (v : Word) : (s.clearErr v).mcTarget = s.mcTarget := rfl
@[simp] theorem State.clearErr_taskDist (v : Word) : (s.clearErr v).taskDist = s.taskDist := rfl
@[simp] theorem State.clearErr_aPrev (v : Word) : (s.clearErr v).aPrev = s.aPrev := rfl
@[simp] theorem State.clearErr_vX (v : Word) : (s.clearErr v).vX = s.vX := rfl
@[simp] theorem State.clearErr_pX (v : Word) : (s.clearErr v).pX = s.pX := rfl
@[simp] theorem State.clearErr_motYaw (v : Word) : (s.clearErr v).motYaw = s.motYaw := rfl
@[simp] theorem State.clearErr_motFwd (v : Word) : (s.clearErr v).motFwd = s.motFwd := rfl
@[simp] theorem State.clearErr_zeroCnt (v : Word) : (s.clearErr v).zeroCnt = s.zeroCnt := rfl
@[simp] theorem State.clearErr_doneCnt (v : Word) : (s.clearErr v).doneCnt = s.doneCnt := rfl
@[simp] theorem State.clearErr_opa (v : Word) : (s.clearErr v).opa = s.opa := rfl
@[simp] theorem State.clearErr_opb (v : Word) : (s.clearErr v).opb = s.opb := rfl
@[simp] theorem State.clearErr_opres (v : Word) : (s.clearErr v).opres = s.opres := rfl
@[simp] theorem State.clearErr_sensHead (v : Word) : (s.clearErr v).sensHead = s.sensHead := rfl
@[simp] theorem State.clearErr_sensAx (v : Word) : (s.clearErr v).sensAx = s.sensAx := rfl
@[simp] theorem State.clearErr_sensAy (v : Word) : (s.clearErr v).sensAy = s.sensAy := rfl
@[simp] theorem State.clearErr_sensAz (v : Word) : (s.clearErr v).sensAz = s.sensAz := rfl
@[simp] theorem State.clearErr_sensValid (v : Word) : (s.clearErr v).sensValid = s.sensValid := rfl
@[simp] theorem State.clearErr_pending (v : Word) : (s.clearErr v).pending = s.pending := rfl
@[simp] theorem State.clearErr_readData (v : Word) : (s.clearErr v).readData = s.readData := rfl

@[simp] theorem State.zeroMotors_cfg : (s.zeroMotors).cfg = s.cfg := rfl
@[simp] theorem State.zeroMotors_err : (s.zeroMotors).err = s.err := rfl
@[simp] theorem State.zeroMotors_fvPayload : (s.zeroMotors).fvPayload = s.fvPayload := rfl
@[simp] theorem State.zeroMotors_frameHi : (s.zeroMotors).frameHi = s.frameHi := rfl
@[simp] theorem State.zeroMotors_frameLo : (s.zeroMotors).frameLo = s.frameLo := rfl
@[simp] theorem State.zeroMotors_fvResult : (s.zeroMotors).fvResult = s.fvResult := rfl
@[simp] theorem State.zeroMotors_rxCnt : (s.zeroMotors).rxCnt = s.rxCnt := rfl
@[simp] theorem State.zeroMotors_lastEncOvf : (s.zeroMotors).lastEncOvf = s.lastEncOvf := rfl
@[simp] theorem State.zeroMotors_rxBuf : (s.zeroMotors).rxBuf = s.rxBuf := rfl
@[simp] theorem State.zeroMotors_acceptCnt : (s.zeroMotors).acceptCnt = s.acceptCnt := rfl
@[simp] theorem State.zeroMotors_rejectCnt : (s.zeroMotors).rejectCnt = s.rejectCnt := rfl
@[simp] theorem State.zeroMotors_mcDist : (s.zeroMotors).mcDist = s.mcDist := rfl
@[simp] theorem State.zeroMotors_mcTurn : (s.zeroMotors).mcTurn = s.mcTurn := rfl
@[simp] theorem State.zeroMotors_phase : (s.zeroMotors).phase = s.phase := rfl
@[simp] theorem State.zeroMotors_inTol : (s.zeroMotors).inTol = s.inTol := rfl
@[simp] theorem State.zeroMotors_still : (s.zeroMotors).still = s.still := rfl
@[simp] theorem State.zeroMotors_headDefaulted : (s.zeroMotors).headDefaulted = s.headDefaulted := rfl
@[simp] theorem State.zeroMotors_fifo : (s.zeroMotors).fifo = s.fifo := rfl
@[simp] theorem State.zeroMotors_mcTarget : (s.zeroMotors).mcTarget = s.mcTarget := rfl
@[simp] theorem State.zeroMotors_taskDist : (s.zeroMotors).taskDist = s.taskDist := rfl
@[simp] theorem State.zeroMotors_aPrev : (s.zeroMotors).aPrev = s.aPrev := rfl
@[simp] theorem State.zeroMotors_vX : (s.zeroMotors).vX = s.vX := rfl
@[simp] theorem State.zeroMotors_pX : (s.zeroMotors).pX = s.pX := rfl
@[simp] theorem State.zeroMotors_motYaw : (s.zeroMotors).motYaw = 0 := rfl
@[simp] theorem State.zeroMotors_motFwd : (s.zeroMotors).motFwd = 0 := rfl
@[simp] theorem State.zeroMotors_zeroCnt : (s.zeroMotors).zeroCnt = s.zeroCnt + 1 := rfl
@[simp] theorem State.zeroMotors_doneCnt : (s.zeroMotors).doneCnt = s.doneCnt := rfl
@[simp] theorem State.zeroMotors_opa : (s.zeroMotors).opa = s.opa := rfl
@[simp] theorem State.zeroMotors_opb : (s.zeroMotors).opb = s.opb := rfl
@[simp] theorem State.zeroMotors_opres : (s.zeroMotors).opres = s.opres := rfl
@[simp] theorem State.zeroMotors_sensHead : (s.zeroMotors).sensHead = s.sensHead := rfl
@[simp] theorem State.zeroMotors_sensAx : (s.zeroMotors).sensAx = s.sensAx := rfl
@[simp] theorem State.zeroMotors_sensAy : (s.zeroMotors).sensAy = s.sensAy := rfl
@[simp] theorem State.zeroMotors_sensAz : (s.zeroMotors).sensAz = s.sensAz := rfl
@[simp] theorem State.zeroMotors_sensValid : (s.zeroMotors).sensValid = s.sensValid := rfl
@[simp] theorem State.zeroMotors_pending : (s.zeroMotors).pending = s.pending := rfl
@[simp] theorem State.zeroMotors_readData : (s.zeroMotors).readData = s.readData := rfl

@[simp] theorem State.writeFrame_cfg (v : Frame) : (s.writeFrame v).cfg = s.cfg := rfl
@[simp] theorem State.writeFrame_err (v : Frame) : (s.writeFrame v).err = s.err := rfl
@[simp] theorem State.writeFrame_fvPayload (v : Frame) : (s.writeFrame v).fvPayload = s.fvPayload := rfl
@[simp] theorem State.writeFrame_frameHi (v : Frame) : (s.writeFrame v).frameHi = v.extractLsb' 32 24 := rfl
@[simp] theorem State.writeFrame_frameLo (v : Frame) : (s.writeFrame v).frameLo = v.extractLsb' 0 32 := rfl
@[simp] theorem State.writeFrame_fvResult (v : Frame) : (s.writeFrame v).fvResult = s.fvResult := rfl
@[simp] theorem State.writeFrame_rxCnt (v : Frame) : (s.writeFrame v).rxCnt = s.rxCnt := rfl
@[simp] theorem State.writeFrame_lastEncOvf (v : Frame) : (s.writeFrame v).lastEncOvf = s.lastEncOvf := rfl
@[simp] theorem State.writeFrame_rxBuf (v : Frame) : (s.writeFrame v).rxBuf = s.rxBuf := rfl
@[simp] theorem State.writeFrame_acceptCnt (v : Frame) : (s.writeFrame v).acceptCnt = s.acceptCnt := rfl
@[simp] theorem State.writeFrame_rejectCnt (v : Frame) : (s.writeFrame v).rejectCnt = s.rejectCnt := rfl
@[simp] theorem State.writeFrame_mcDist (v : Frame) : (s.writeFrame v).mcDist = s.mcDist := rfl
@[simp] theorem State.writeFrame_mcTurn (v : Frame) : (s.writeFrame v).mcTurn = s.mcTurn := rfl
@[simp] theorem State.writeFrame_phase (v : Frame) : (s.writeFrame v).phase = s.phase := rfl
@[simp] theorem State.writeFrame_inTol (v : Frame) : (s.writeFrame v).inTol = s.inTol := rfl
@[simp] theorem State.writeFrame_still (v : Frame) : (s.writeFrame v).still = s.still := rfl
@[simp] theorem State.writeFrame_headDefaulted (v : Frame) : (s.writeFrame v).headDefaulted = s.headDefaulted := rfl
@[simp] theorem State.writeFrame_fifo (v : Frame) : (s.writeFrame v).fifo = s.fifo := rfl
@[simp] theorem State.writeFrame_mcTarget (v : Frame) : (s.writeFrame v).mcTarget = s.mcTarget := rfl
@[simp] theorem State.writeFrame_taskDist (v : Frame) : (s.writeFrame v).taskDist = s.taskDist := rfl
@[simp] theorem State.writeFrame_aPrev (v : Frame) : (s.writeFrame v).aPrev = s.aPrev := rfl
@[simp] theorem State.writeFrame_vX (v : Frame) : (s.writeFrame v).vX = s.vX := rfl
@[simp] theorem State.writeFrame_pX (v : Frame) : (s.writeFrame v).pX = s.pX := rfl
@[simp] theorem State.writeFrame_motYaw (v : Frame) : (s.writeFrame v).motYaw = s.motYaw := rfl
@[simp] theorem State.writeFrame_motFwd (v : Frame) : (s.writeFrame v).motFwd = s.motFwd := rfl
@[simp] theorem State.writeFrame_zeroCnt (v : Frame) : (s.writeFrame v).zeroCnt = s.zeroCnt := rfl
@[simp] theorem State.writeFrame_doneCnt (v : Frame) : (s.writeFrame v).doneCnt = s.doneCnt := rfl
@[simp] theorem State.writeFrame_opa (v : Frame) : (s.writeFrame v).opa = s.opa := rfl
@[simp] theorem State.writeFrame_opb (v : Frame) : (s.writeFrame v).opb = s.opb := rfl
@[simp] theorem State.writeFrame_opres (v : Frame) : (s.writeFrame v).opres = s.opres := rfl
@[simp] theorem State.writeFrame_sensHead (v : Frame) : (s.writeFrame v).sensHead = s.sensHead := rfl
@[simp] theorem State.writeFrame_sensAx (v : Frame) : (s.writeFrame v).sensAx = s.sensAx := rfl
@[simp] theorem State.writeFrame_sensAy (v : Frame) : (s.writeFrame v).sensAy = s.sensAy := rfl
@[simp] theorem State.writeFrame_sensAz (v : Frame) : (s.writeFrame v).sensAz = s.sensAz := rfl
@[simp] theorem State.writeFrame_sensValid (v : Frame) : (s.writeFrame v).sensValid = s.sensValid := rfl
@[simp] theorem State.writeFrame_pending (v : Frame) : (s.writeFrame v).pending = s.pending := rfl
@[simp] theorem State.writeFrame_readData (v : Frame) : (s.writeFrame v).readData = s.readData := rfl

@[simp] theorem State.applyReset_cfg : (s.applyReset).cfg = s.cfg := rfl
@[simp] theorem State.applyReset_err : (s.applyReset).err = State.reset.err := rfl
@[simp] theorem State.applyReset_fvPayload : (s.applyReset).fvPayload = State.reset.fvPayload := rfl
@[simp] theorem State.applyReset_frameHi : (s.applyReset).frameHi = State.reset.frameHi := rfl
@[simp] theorem State.applyReset_frameLo : (s.applyReset).frameLo = State.reset.frameLo := rfl
@[simp] theorem State.applyReset_fvResult : (s.applyReset).fvResult = State.reset.fvResult := rfl
@[simp] theorem State.applyReset_rxCnt : (s.applyReset).rxCnt = State.reset.rxCnt := rfl
@[simp] theorem State.applyReset_lastEncOvf : (s.applyReset).lastEncOvf = State.reset.lastEncOvf := rfl
@[simp] theorem State.applyReset_rxBuf : (s.applyReset).rxBuf = State.reset.rxBuf := rfl
@[simp] theorem State.applyReset_acceptCnt : (s.applyReset).acceptCnt = State.reset.acceptCnt := rfl
@[simp] theorem State.applyReset_rejectCnt : (s.applyReset).rejectCnt = State.reset.rejectCnt := rfl
@[simp] theorem State.applyReset_mcDist : (s.applyReset).mcDist = State.reset.mcDist := rfl
@[simp] theorem State.applyReset_mcTurn : (s.applyReset).mcTurn = State.reset.mcTurn := rfl
@[simp] theorem State.applyReset_phase : (s.applyReset).phase = State.reset.phase := rfl
@[simp] theorem State.applyReset_inTol : (s.applyReset).inTol = State.reset.inTol := rfl
@[simp] theorem State.applyReset_still : (s.applyReset).still = State.reset.still := rfl
@[simp] theorem State.applyReset_headDefaulted : (s.applyReset).headDefaulted = State.reset.headDefaulted := rfl
@[simp] theorem State.applyReset_fifo : (s.applyReset).fifo = State.reset.fifo := rfl
@[simp] theorem State.applyReset_mcTarget : (s.applyReset).mcTarget = State.reset.mcTarget := rfl
@[simp] theorem State.applyReset_taskDist : (s.applyReset).taskDist = State.reset.taskDist := rfl
@[simp] theorem State.applyReset_aPrev : (s.applyReset).aPrev = State.reset.aPrev := rfl
@[simp] theorem State.applyReset_vX : (s.applyReset).vX = State.reset.vX := rfl
@[simp] theorem State.applyReset_pX : (s.applyReset).pX = State.reset.pX := rfl
@[simp] theorem State.applyReset_motYaw : (s.applyReset).motYaw = State.reset.motYaw := rfl
@[simp] theorem State.applyReset_motFwd : (s.applyReset).motFwd = State.reset.motFwd := rfl
@[simp] theorem State.applyReset_zeroCnt : (s.applyReset).zeroCnt = State.reset.zeroCnt := rfl
@[simp] theorem State.applyReset_doneCnt : (s.applyReset).doneCnt = State.reset.doneCnt := rfl
@[simp] theorem State.applyReset_opa : (s.applyReset).opa = State.reset.opa := rfl
@[simp] theorem State.applyReset_opb : (s.applyReset).opb = State.reset.opb := rfl
@[simp] theorem State.applyReset_opres : (s.applyReset).opres = State.reset.opres := rfl
@[simp] theorem State.applyReset_sensHead : (s.applyReset).sensHead = State.reset.sensHead := rfl
@[simp] theorem State.applyReset_sensAx : (s.applyReset).sensAx = State.reset.sensAx := rfl
@[simp] theorem State.applyReset_sensAy : (s.applyReset).sensAy = State.reset.sensAy := rfl
@[simp] theorem State.applyReset_sensAz : (s.applyReset).sensAz = State.reset.sensAz := rfl
@[simp] theorem State.applyReset_sensValid : (s.applyReset).sensValid = State.reset.sensValid := rfl
@[simp] theorem State.applyReset_pending : (s.applyReset).pending = s.pending := rfl
@[simp] theorem State.applyReset_readData : (s.applyReset).readData = s.readData := rfl

@[simp] theorem State.reset_cfg : State.reset.cfg = Config.Params.defaults := rfl
@[simp] theorem State.reset_err : State.reset.err = 0 := rfl
@[simp] theorem State.reset_fvPayload : State.reset.fvPayload = 0 := rfl
@[simp] theorem State.reset_frameHi : State.reset.frameHi = 0 := rfl
@[simp] theorem State.reset_frameLo : State.reset.frameLo = 0 := rfl
@[simp] theorem State.reset_fvResult : State.reset.fvResult = { payload := 0, valid := false, src := false, decoded := false } := rfl
@[simp] theorem State.reset_rxCnt : State.reset.rxCnt = 0 := rfl
@[simp] theorem State.reset_lastEncOvf : State.reset.lastEncOvf = false := rfl
@[simp] theorem State.reset_rxBuf : State.reset.rxBuf = 0 := rfl
@[simp] theorem State.reset_acceptCnt : State.reset.acceptCnt = 0 := rfl
@[simp] theorem State.reset_rejectCnt : State.reset.rejectCnt = 0 := rfl
@[simp] theorem State.reset_mcDist : State.reset.mcDist = 0 := rfl
@[simp] theorem State.reset_mcTurn : State.reset.mcTurn = 0 := rfl
@[simp] theorem State.reset_phase : State.reset.phase = .idle := rfl
@[simp] theorem State.reset_inTol : State.reset.inTol = 0 := rfl
@[simp] theorem State.reset_still : State.reset.still = 0 := rfl
@[simp] theorem State.reset_headDefaulted : State.reset.headDefaulted = false := rfl
@[simp] theorem State.reset_fifo : State.reset.fifo = [] := rfl
@[simp] theorem State.reset_mcTarget : State.reset.mcTarget = 0 := rfl
@[simp] theorem State.reset_taskDist : State.reset.taskDist = 0 := rfl
@[simp] theorem State.reset_aPrev : State.reset.aPrev = 0 := rfl
@[simp] theorem State.reset_vX : State.reset.vX = 0 := rfl
@[simp] theorem State.reset_pX : State.reset.pX = 0 := rfl
@[simp] theorem State.reset_motYaw : State.reset.motYaw = 0 := rfl
@[simp] theorem State.reset_motFwd : State.reset.motFwd = 0 := rfl
@[simp] theorem State.reset_zeroCnt : State.reset.zeroCnt = 0 := rfl
@[simp] theorem State.reset_doneCnt : State.reset.doneCnt = 0 := rfl
@[simp] theorem State.reset_opa : State.reset.opa = 0 := rfl
@[simp] theorem State.reset_opb : State.reset.opb = 0 := rfl
@[simp] theorem State.reset_opres : State.reset.opres = 0 := rfl
@[simp] theorem State.reset_sensHead : State.reset.sensHead = 0 := rfl
@[simp] theorem State.reset_sensAx : State.reset.sensAx = 0 := rfl
@[simp] theorem State.reset_sensAy : State.reset.sensAy = 0 := rfl
@[simp] theorem State.reset_sensAz : State.reset.sensAz = 0 := rfl
@[simp] theorem State.reset_sensValid : State.reset.sensValid = 0 := rfl
@[simp] theorem State.reset_pending : State.reset.pending = [] := rfl
@[simp] theorem State.reset_readData : State.reset.readData = none := rfl

end Sys2Proof.Machine
end

