-- ==== Sys2Proof/Laws/Ops.lean ====
section
/-! SUPPORT. For each shared operation, everything it can do, said once. -/

namespace Sys2Proof.Machine

variable (s : State)

theorem State.raiseWhen_true (f : ErrFlag) : s.raiseWhen true f = s.raise f := rfl

@[simp] theorem State.raiseWhen_false (f : ErrFlag) : s.raiseWhen false f = s := rfl

/-- A second occurrence of a flag leaves ERR as it is (R184). -/
@[simp] theorem State.raise_raise (f : ErrFlag) : (s.raise f).raise f = s.raise f := by
  simp [State.raise, State.raiseWhen, BitVec.or_assoc]

/-- The two outcomes of `decode_frame` (R95). -/
theorem decodeFrame_cases (v : Frame) (src : Bool) :
    (accepts v = true ∧ decodeFrame v src s =
      { s with fvResult := ⟨v.extractLsb' 32 24, true, src, true⟩, acceptCnt := s.acceptCnt + 1 }) ∨
    (accepts v = false ∧ decodeFrame v src s =
      { s with fvResult := ⟨0, false, src, true⟩, rejectCnt := s.rejectCnt + 1, err := s.err ||| 1#7,
               motYaw := 0, motFwd := 0, zeroCnt := s.zeroCnt + 1 }) := by
  cases h : accepts v
  · right; exact ⟨rfl, by simp only [decodeFrame, h]; rfl⟩
  · left; exact ⟨rfl, by simp only [decodeFrame, h]; rfl⟩

/-- INTOL after a read is 0 or one more (R142, R145). -/
theorem countInTol_cases (ok : Bool) (n : BitVec 2) :
    (ok = true ∧ countInTol ok n = n + 1) ∨ (ok = false ∧ countInTol ok n = 0) := by
  cases ok
  · exact Or.inr ⟨rfl, rfl⟩
  · exact Or.inl ⟨rfl, rfl⟩

/-- The heading error of a Turning step, and INTOL after its read (R142). -/
abbrev turnError (s : State) : Int := headingError (uval s.mcTarget) s.heading

/-- INTOL after the read of a Turning step (R142). -/
abbrev turnCount (s : State) : BitVec 2 := countInTol (absInt (turnError s) ≤ Config.tolHead) s.inTol

/-- The two outcomes of a Turning step with a valid heading (R142). -/
theorem turningStep_cases :
    (turnCount s = 2#2 ∧ turningStep s = { s with inTol := 0, phase := .advancing }) ∨
    (turnCount s ≠ 2#2 ∧
      turningStep s = { s with inTol := turnCount s, motYaw := speedCode (turnError s), motFwd := 0 }) := by
  by_cases hc : turnCount s = 2#2
  · exact Or.inl ⟨hc, if_pos hc⟩
  · exact Or.inr ⟨hc, if_neg hc⟩

/-- INTOL after the read of an Advancing step (R145). -/
abbrev advanceCount (s : State) : BitVec 2 :=
  countInTol (absInt (uval s.taskDist - s.posMm) ≤ Config.tolDist) s.inTol

/-- The two outcomes of the control part of an Advancing step (R145). -/
theorem advanceControl_cases :
    (advanceCount s = 2#2 ∧ advanceControl s =
      { s with inTol := 0, phase := .idle, motYaw := 0, motFwd := 0, zeroCnt := s.zeroCnt + 1,
               doneCnt := s.doneCnt + 1 }) ∨
    (advanceCount s ≠ 2#2 ∧ advanceControl s =
      { s with inTol := advanceCount s, motFwd := speedCode (uval s.taskDist - s.posMm),
               motYaw := speedCode (fdiv (turnError s) (2 ^ s.cfg.yawAdvShift)) }) := by
  by_cases hc : advanceCount s = 2#2
  · exact Or.inl ⟨hc, if_pos hc⟩
  · exact Or.inr ⟨hc, if_neg hc⟩

/-- The dead-reckoning step writes STILL, the three estimator values and at most ACC_SAT (R124). -/
theorem estStep_shape (ax ay az : Int) :
    ∃ c n a v p, estStep ax ay az s =
      { s.raiseWhen c .accSat with still := countStill n s.still, aPrev := a, vX := v, pX := p } :=
  ⟨_, _, _, _, _, rfl⟩

/-- A counted still sample never passes `STILL_N` (R124). -/
theorem countStill_le (quiet : Bool) (n : BitVec 3) : (countStill quiet n).toNat ≤ 5 := by
  revert quiet n
  decide

/-- ENC writes the two frame registers and LAST_ENC_OVF, and raises ENC_OVF exactly when it sets LAST_ENC_OVF (R92). -/
theorem execEnc_shape :
    ∃ c hi lo, execEnc s = .next { s.raiseWhen c .encOvf with frameHi := hi, frameLo := lo, lastEncOvf := c } :=
  ⟨_, _, _, rfl⟩

/-- The two paths of RXPUSH (R100). -/
theorem execRxpush_cases (b : Byte) :
    (s.rxCnt.toNat < 6 ∧
      execRxpush b s = .next { s with rxBuf := appendByte s.rxBuf b, rxCnt := s.rxCnt + 1 }) ∨
    (6 ≤ s.rxCnt.toNat ∧ execRxpush b s =
      .next (decodeFrame (s.rxBuf ++ b) true { s.writeFrame (s.rxBuf ++ b) with rxBuf := 0, rxCnt := 0 })) := by
  by_cases h : s.rxCnt.toNat < 6
  · exact Or.inl ⟨h, if_pos h⟩
  · exact Or.inr ⟨Nat.le_of_not_lt h, if_neg h⟩

/-- The two paths of ENQ (R130). -/
theorem execEnq_cases :
    (s.fifo.length = s.cfg.qDepth ∧ execEnq s = .next (s.raise .qFull)) ∨
    (s.fifo.length ≠ s.cfg.qDepth ∧ execEnq s = .next { s with fifo := s.fifo ++ [s.taskOperand] }) := by
  by_cases h : s.fifo.length = s.cfg.qDepth
  · exact Or.inl ⟨h, if_pos h⟩
  · exact Or.inr ⟨h, if_neg h⟩

/-- The paths of the phase part of a TICK (R140). -/
theorem runPhase_cases :
    (s.phase = .idle ∧ runPhase s = s) ∨
    (s.phase = .turning ∧ s.headOk = true ∧ runPhase s = turningStep s) ∨
    (s.phase = .advancing ∧ s.headOk = true ∧ s.accOk = true ∧ runPhase s = advancingStep s) ∨
    (s.phase ≠ .idle ∧ runPhase s = sensorHold s) := by
  unfold runPhase
  cases hp : s.phase <;> cases hh : s.headOk <;> cases ha : s.accOk <;> simp

/-- The paths of a TICK (R140). -/
theorem execTick_cases :
    (s.phase = .idle ∧ s.fifo = [] ∧ execTick s = .next s) ∨
    (∃ task rest, s.phase = .idle ∧ s.fifo = task :: rest ∧ execTick s = .next (runPhase (startTask task rest s))) ∨
    (s.phase = .turning ∧ execTick s = .next (runPhase s)) ∨
    (s.phase = .advancing ∧ execTick s = .next (runPhase s)) := by
  unfold execTick
  cases hp : s.phase <;> cases hf : s.fifo <;> simp

/-- A started task is in TURNING whatever the sensors say (R141). -/
@[simp] theorem startTask_phase (task : Task) (rest : List Task) : (startTask task rest s).phase = .turning := rfl

@[simp] theorem startTask_headOk (task : Task) (rest : List Task) :
    (startTask task rest s).headOk = s.headOk := rfl

end Sys2Proof.Machine
end

