-- ==== Sys2Proof/Laws/Bus.lean ====
section
/-! SUPPORT. What one bus access, one host event and one step can do, said once. -/

namespace Sys2Proof.Machine

/-- Every mapped register is found at its own address (R22). -/
@[simp] theorem regAt_regAddr (r : Reg) : regAt (regAddr r) = some r := by
  cases r <;> rfl

/-- The word addresses at which nothing is mapped: 0x58, 0x5C and 0x74 to 0xFC (R22). -/
theorem regAt_eq_none_iff (a : WordAddr) : regAt a = none ↔ a = 22#6 ∨ a = 23#6 ∨ 29 ≤ a.toNat := by
  revert a
  decide

theorem regAt_eq_some {a : WordAddr} {r : Reg} (h : regAt a = some r) : a = regAddr r := by
  have := List.find?_some h
  exact (of_decide_eq_true this).symm

/-- ERR is the one W1C register (R22). -/
theorem eq_err_of_w1c {r : Reg} (h : regAccess r = .w1c) : r = .err := by
  revert h
  cases r <;> decide

/-- CMD is the one WO register (R22). -/
theorem eq_cmd_of_wo {r : Reg} (h : regAccess r = .wo) : r = .cmd := by
  revert h
  cases r <;> decide

variable (s : State)

/-- The two outcomes of a bus read (R53). -/
theorem busRead_cases (a : WordAddr) :
    (∃ r, regAt a = some r ∧ busRead a s = { s with readData := some (readReg r s) }) ∨
    (regAt a = none ∧ busRead a s = { s.raise .busErr with readData := some 0 }) := by
  cases h : regAt a with
  | none => right; exact ⟨rfl, by simp only [busRead, readValue, h]; rfl⟩
  | some r => left; exact ⟨r, rfl, by simp only [busRead, readValue, h]; rfl⟩

/-- The five outcomes of a bus write (R54). -/
theorem busWrite_cases (a : WordAddr) (v : Word) :
    (regAt a = none ∧ busWrite a v s = .next (s.raise .busErr)) ∨
    (∃ r, a = regAddr r ∧ regAccess r = .ro ∧ busWrite a v s = .next (s.raise .busErr)) ∨
    (∃ r, a = regAddr r ∧ regAccess r = .rw ∧ busWrite a v s = .next (writeReg r v s)) ∨
    (a = regAddr .err ∧ busWrite a v s = .next (s.clearErr v)) ∨
    (a = regAddr .cmd ∧ busWrite a v s = executeCommand v s) := by
  cases h : regAt a with
  | none => left; exact ⟨rfl, by simp only [busWrite, h]⟩
  | some r =>
    right
    have ha := regAt_eq_some h
    subst ha
    cases hacc : regAccess r with
    | ro => exact Or.inl ⟨r, rfl, hacc, by simp only [busWrite, h, hacc]⟩
    | rw => exact Or.inr (Or.inl ⟨r, rfl, hacc, by simp only [busWrite, h, hacc]⟩)
    | w1c =>
      refine Or.inr (Or.inr (Or.inl ⟨by rw [eq_err_of_w1c hacc], by simp only [busWrite, h, hacc]⟩))
    | wo =>
      refine Or.inr (Or.inr (Or.inr ⟨by rw [eq_cmd_of_wo hacc], by simp only [busWrite, h, hacc]⟩))

/-- The two outcomes of a CMD write (R70). -/
theorem executeCommand_cases (w : Word) :
    (∃ i, decode w = .ok i ∧ executeCommand w s = exec i s) ∨
    (∃ e, decode w = .error e ∧ executeCommand w s = .next (s.raise .illegalCmd)) := by
  unfold executeCommand
  cases h : decode w with
  | ok i => exact Or.inl ⟨i, rfl, rfl⟩
  | error e => exact Or.inr ⟨e, rfl, rfl⟩

/-- If a step answers a next state, the parameters are in range and either nothing was pending and nothing changed, or
the first pending event was served (R20, R192). -/
theorem step_next_cases {s t : State} (h : step s = .next t) :
    s.cfg.inRange = true ∧ ((s.pending = [] ∧ t = s) ∨
      ∃ e rest, s.pending = e :: rest ∧ hostEvent e { s with pending := rest } = .next t) := by
  unfold step at h
  split at h
  case isFalse => cases h
  case isTrue hr =>
    refine ⟨hr, ?_⟩
    unfold serveHost at h
    split at h
    · left
      cases h
      exact ⟨by assumption, rfl⟩
    · right
      exact ⟨_, _, by assumption, h⟩

/-- With parameters in range, a step serves the first pending event. -/
theorem step_of_pending {e : HostEvent} {rest : List HostEvent} (hr : s.cfg.inRange = true)
    (hp : s.pending = e :: rest) : step s = hostEvent e { s with pending := rest } := by
  simp only [step, hr, if_true, serveHost, hp]

/-- A run of one more step is a step and then the run, on any machine. -/
theorem run_succ_of_step (M : Host.Core) (n : Nat) {x y : M.State} (h : M.step x = .next y) :
    M.run (n + 1) x = M.run n y := by
  rw [Host.Core.run, h]

/-- A run of one more step is a step and then the run. -/
theorem run_succ_of_next {s t : State} (n : Nat) (h : step s = .next t) :
    Host.Core.run Sys2Proof.core (n + 1) s = Host.Core.run Sys2Proof.core n t :=
  run_succ_of_step Sys2Proof.core n h

theorem run_zero (s : State) : Host.Core.run Sys2Proof.core 0 s = .next s := rfl

end Sys2Proof.Machine
end

