-- ==== Sys2Proof/Laws/PerInstr.lean ====
section
/-! SUPPORT. Statements about every instruction as syntax, made constructor by constructor. -/

namespace Sys2Proof.Laws

/-- The encoded word keeps to the one format of R71: bits 31:16 are 0, and bits 15:8 are 0 for every opcode but
RXPUSH's. -/
def EncodingFormat.Statement (i : Instr) : Prop :=
  encode i &&& reservedMask (opField (encode i)) = 0#32

theorem EncodingFormat.enc : EncodingFormat.Statement .enc := by unfold Statement; decide

theorem EncodingFormat.dec : EncodingFormat.Statement .dec := by unfold Statement; decide

theorem EncodingFormat.rxpush (b : Byte) : EncodingFormat.Statement (.rxpush b) := by
  revert b
  unfold Statement
  decide

theorem EncodingFormat.rxflush : EncodingFormat.Statement .rxflush := by unfold Statement; decide

theorem EncodingFormat.enq : EncodingFormat.Statement .enq := by unfold Statement; decide

theorem EncodingFormat.halt : EncodingFormat.Statement .halt := by unfold Statement; decide

theorem EncodingFormat.tick : EncodingFormat.Statement .tick := by unfold Statement; decide

theorem EncodingFormat.herr : EncodingFormat.Statement .herr := by unfold Statement; decide

theorem EncodingFormat.corr : EncodingFormat.Statement .corr := by unfold Statement; decide

end Sys2Proof.Laws
end

