-- ==== Sys2Proof/Tests/Slice0.lean ====
section
/-! SUPPORT. The model's own tests: the smoke test of every well-formedness check, the command words written out from
R71 and R72, one step per command with the values of spec/95_test_vectors.md, and a state that meets the hypotheses of
each statement of Certificates/Slice0/Obligations.lean. -/

namespace Sys2Proof.Tests

open Sys2Proof Sys2Proof.Machine

/-- What a view of the next state gives, none when there is no next state. -/
def nextView {α : Type} (f : State → α) : Host.Outcome State Fault Refusal → Option α
  | .next t => some (f t)
  | .fault _ => none
  | .refused _ => none

/-- The machine after reset with these events of the host still to come. -/
def presenting (events : List HostEvent) : State := { State.reset with pending := events }

/-- A machine in TURNING towards a target heading, both sensors valid. -/
def turningTo (target : Word) : State := { State.reset with phase := .turning, mcTarget := target, sensValid := 3 }

/-- A machine in ADVANCING over a distance, both sensors valid. -/
def advancingOver (dist : BitVec 20) : State :=
  { State.reset with phase := .advancing, taskDist := dist, sensValid := 3 }

/-- The machine with its parameters replaced. -/
def withParams (p : Config.Params) : State := { State.reset with cfg := p }

/-- A machine holding this frame in FV_FRAME_HI and FV_FRAME_LO. -/
def holding (hi : BitVec 24) (lo : Word) : State := { State.reset with frameHi := hi, frameLo := lo }

/-! ## Well-formedness: one ill-formed term for each check (R8, R76, R77) -/

theorem test_wf_defaults_accepted : Config.Params.defaults.inRange = true := by decide

theorem test_wf_qDepth_zero : { Config.Params.defaults with qDepth := 0 }.inRange = false := by decide

theorem test_wf_qDepth_sixteen : { Config.Params.defaults with qDepth := 16 }.inRange = false := by decide

theorem test_wf_dtUs_zero : { Config.Params.defaults with dtUs := 0 }.inRange = false := by decide

theorem test_wf_dtUs_too_long : { Config.Params.defaults with dtUs := 1000001 }.inRange = false := by decide

theorem test_wf_yawAdvShift_32 : { Config.Params.defaults with yawAdvShift := 32 }.inRange = false := by decide

theorem test_wf_base_unaligned : { Config.Params.defaults with fvmcBase := 2 }.inRange = false := by decide

theorem test_wf_limits_accepted :
    ({ qDepth := 15, dtUs := 1000000, yawAdvShift := 31, fvmcBase := 0x40000000 } : Config.Params).inRange = true ∧
    ({ qDepth := 1, dtUs := 1, yawAdvShift := 0, fvmcBase := 0 } : Config.Params).inRange = true := by decide

theorem test_wf_value_limits : asmValueOk (2 ^ 32 - 1) = true ∧ asmValueOk (2 ^ 32) = false ∧
    asmValueOk (-(2 ^ 31)) = true ∧ asmValueOk (-(2 ^ 31) - 1) = false := by decide

theorem test_wf_offset_limits : asmOffsetOk 0xFC = true ∧ asmOffsetOk 0x100 = false ∧ asmOffsetOk 0x02 = false := by
  decide

theorem test_wf_statements_refused : (Stmt.wr .opa (2 ^ 32)).wf = false ∧ (Stmt.wrAt 0x100 0).wf = false ∧
    (Stmt.wrAt 0x74 (2 ^ 32)).wf = false ∧ (Stmt.rdAt 0x59).wf = false := by decide

theorem test_wf_pseudos_refused : (Pseudo.encode (2 ^ 32)).wf = false ∧ (Pseudo.decode 0 (2 ^ 32)).wf = false ∧
    (Pseudo.task (2 ^ 32) 0).wf = false ∧ (Pseudo.sense 0 0 0 0 (2 ^ 32)).wf = false ∧
    (Pseudo.step (2 ^ 32) 0 0 0 0).wf = false ∧ (Pseudo.herrOf 0 (2 ^ 32)).wf = false ∧
    (Pseudo.corrOf (2 ^ 32)).wf = false := by decide

/-! ## Command words, written out bit by bit from R71 and R72 (RSV, ARG, OP) -/

theorem test_decode_enc : decode (0b0000000000000000#16 ++ 0b00000000#8 ++ 0b00000001#8) = .ok .enc := by decide

theorem test_decode_dec : decode (0b0000000000000000#16 ++ 0b00000000#8 ++ 0b00000010#8) = .ok .dec := by decide

theorem test_decode_rxpush :
    decode (0b0000000000000000#16 ++ 0b10010101#8 ++ 0b00000011#8) = .ok (.rxpush 0x95#8) := by decide

theorem test_decode_rxflush : decode (0b0000000000000000#16 ++ 0b00000000#8 ++ 0b00000100#8) = .ok .rxflush := by decide

theorem test_decode_enq : decode (0b0000000000000000#16 ++ 0b00000000#8 ++ 0b00010000#8) = .ok .enq := by decide

theorem test_decode_halt : decode (0b0000000000000000#16 ++ 0b00000000#8 ++ 0b00010001#8) = .ok .halt := by decide

theorem test_decode_tick : decode (0b0000000000000000#16 ++ 0b00000000#8 ++ 0b00010010#8) = .ok .tick := by decide

theorem test_decode_herr : decode (0b0000000000000000#16 ++ 0b00000000#8 ++ 0b00100000#8) = .ok .herr := by decide

theorem test_decode_corr : decode (0b0000000000000000#16 ++ 0b00000000#8 ++ 0b00100001#8) = .ok .corr := by decide

/-- The illegal words of spec/95_test_vectors.md section 2.1. -/
theorem test_decode_illegal_words :
    [0x00000000#32, 0x00000005#32, 0x0000000F#32, 0x00000113#32, 0x00000013#32, 0x0000001F#32, 0x00000022#32,
      0x000000FF#32].all (fun w => decode w = .error .unassignedOpcode) = true ∧
    [0x00000101#32, 0x00010003#32, 0x8000FF03#32, 0x80000012#32].all (fun w => decode w = .error .reservedBitSet) =
      true := by decide

theorem test_tableWord_reads_row : decodeTableWord 32 0x0000FF03 = some (.rxpush 0xFF#8) ∧
    decodeTableWord 32 0x12 = some .tick ∧ decodeTableWord 32 0x80000012 = none := by decide

/-- The first instruction after reset: 0xFF03 as the fetched word pushes one byte. -/
theorem test_fetchWord_runs_first : nextView (fun t => (t.rxCnt, t.rxBuf, t.pending))
    (step (State.reset.withFetchWord 32 0xFF03)) = some (1#3, 0xFF#48, []) := by decide

/-! ## One step per command, with the values of spec/95_test_vectors.md -/

/-- Section 2.3: the odd overflowing payload 0x00006D. -/
theorem test_enc_overflow : nextView (fun t => (t.frameHi, t.frameLo, readReg .fvStat t, t.err))
    (exec .enc { State.reset with fvPayload := 0x6D }) = some (0x00006D#24, 0x01788934#32, 8#32, 0x10#7) := by decide

/-- Section 2.3: 0xABCDEF. -/
theorem test_enc_plain : nextView (fun t => (t.frameHi, t.frameLo, readReg .fvStat t, t.err))
    (exec .enc { State.reset with fvPayload := 0xABCDEF }) = some (0xABCDEF#24, 0x49912F6E#32, 0#32, 0#7) := by decide

/-- Section 2.4: 0x123456 accepted. -/
theorem test_dec_accepts : nextView (fun t => (readReg .fvResult t, readReg .fvCount t, t.zeroCnt))
    (exec .dec (holding 0x123456 0xF0F25232)) = some (0x05123456#32, 1#32, 0#32) := by decide

/-- Section 2.4: counter wrap on a rejected DEC. -/
theorem test_dec_rejects : nextView (fun t => (readReg .fvResult t, readReg .fvCount t, t.err, t.zeroCnt))
    (exec .dec { holding 0 1 with rejectCnt := 0xFFFF, acceptCnt := 5 }) =
      some (0x04000000#32, 0x00000005#32, 1#7, 1#32) := by decide

/-- Section 2.5: the seventh byte of a damaged ping. -/
theorem test_rxpush_seventh : nextView (fun t => (t.frameLo, readReg .fvResult t, t.err, t.rxCnt))
    (exec (.rxpush 0x94#8) { State.reset with rxCnt := 6, rxBuf := 0xFFFFFF9B9FF7 }) =
      some (0x9B9FF794#32, 0x06000000#32, 1#7, 0#3) := by decide

/-- Section 2.5: three bytes held, and then flushed. -/
theorem test_rxflush : nextView (fun t => (t.rxCnt, t.rxBuf))
    (exec .rxflush { State.reset with rxCnt := 3, rxBuf := 0xFFFFFF }) = some (0#3, 0#48) := by decide

/-- Section 2.8: `task 2000, 90000`. -/
theorem test_enq : nextView (fun t => (readReg .mcState t, t.fifo))
    (exec .enq { State.reset with mcDist := 2000, mcTurn := 90000 }) =
      some (0x04#32, [⟨2000#20, 90000#32⟩]) := by decide

/-- Section 2.8: `Q_DEPTH = 1` and one task queued. -/
theorem test_enq_full : nextView (fun t => (readReg .mcState t, t.err))
    (exec .enq { withParams { Config.Params.defaults with qDepth := 1 } with fifo := [⟨0, 0⟩] }) =
      some (0x04#32, 0x04#7) := by decide

/-- Section 2.9 T10: HALT keeps INTOL. -/
theorem test_halt : nextView (fun t => (readReg .mcState t, t.motFwd, t.zeroCnt, t.doneCnt))
    (exec .halt { advancingOver 0 with inTol := 1, motFwd := 100001 }) = some (0x40#32, 0#17, 1#32, 0#32) := by decide

/-- Section 2.9 T4: a target and an error below zero. -/
theorem test_tick_starts : nextView (fun t => (readReg .mcState t, t.mcTarget, t.motYaw, t.motFwd))
    (exec .tick { State.reset with sensHead := -5000, sensValid := 3, fifo := [⟨0, -2000⟩] }) =
      some (1#32, 353000#32, 102000#17, 0#17) := by decide

/-- Section 2.7: the saturation vector. -/
theorem test_tick_saturates : nextView (fun t => (t.vX.toInt, t.pX.toInt, t.err, readReg .mcVel t, readReg .mcPos t))
    (exec .tick { advancingOver 0 with vX := 0x7FFFFFFFFFFFFC18, aPrev := 2147483647, sensAx := 2147483647 }) =
      some (2 ^ 63 - 1, 2 ^ 63 - 1, 0x20#7, 2147483647#32, 2305843#32) := by decide

/-- Section 2.6: the operands whose difference needs 33 bits. -/
theorem test_herr : nextView (·.opres) (exec .herr { State.reset with opa := 0x80000000, opb := 0x7FFFFFFF }) =
    some 0xFFFD7281#32 := by decide

/-- Section 2.6: `corr_of -75`. -/
theorem test_corr : nextView (·.opres) (exec .corr { State.reset with opa := -75 }) = some 0x000186EB#32 := by decide

/-- Section 2.2: an unmapped read, and a write to a read-only register. -/
theorem test_bus_errors : nextView (fun t => (t.err, t.readData)) (step (presenting [.read 22#6])) =
      some (0x40#7, some 0#32) ∧
    nextView (fun t => (t.err, t.motYaw)) (step (presenting [.write (regAddr .motYaw) 25000#32])) =
      some (0x40#7, 0#17) := by decide

/-- Section 2.2: ERR = 0x49 and `wr ERR, 0x08`. -/
theorem test_clear_error : nextView (·.err) (step { presenting [.write (regAddr .err) 0x08#32] with err := 0x49 }) =
    some 0x41#7 := by decide

/-! ## States that meet the hypotheses of the statements -/

/-- IllegalWordOnlyRaisesFlag: the limits of each range of unassigned opcodes, and a reserved bit of each mask. -/
theorem witness_illegalWord :
    [0x00000000#32, 0x00000005#32, 0x0000000F#32, 0x00000013#32, 0x0000001F#32, 0x00000022#32, 0x000000FF#32,
      0x00000101#32, 0x80000012#32, 0x00010003#32].all (fun w =>
      let s := presenting [.write (regAddr .cmd) w]
      s.cfg.inRange && s.pending = .write (regAddr .cmd) w :: [] &&
      (let op := (w.extractLsb' 0 8).toNat
       (op = 0 || (0x05 ≤ op && op ≤ 0x0F) || (0x13 ≤ op && op ≤ 0x1F) || 0x22 ≤ op) ||
        w &&& (if op = 0x03 then 0xFFFF0000#32 else 0xFFFFFF00#32) ≠ 0#32)) = true := by decide

/-- CommandWriteRunsItsRule, StepRunsDecodedCommand, EveryCommandCompletes. -/
theorem witness_commandWrite : (presenting [commandEvent .tick]).cfg.inRange = true ∧
    (presenting [commandEvent .tick]).pending = .write (regAddr .cmd) 0x12#32 :: [] ∧ decode 0x12#32 = .ok .tick := by
  decide

/-- OutOfRangeParametersRefused: one configuration for each of its alternatives. -/
theorem witness_outOfRange :
    (withParams { Config.Params.defaults with qDepth := 0 }).cfg.qDepth = 0 ∧
    15 < (withParams { Config.Params.defaults with qDepth := 16 }).cfg.qDepth ∧
    (withParams { Config.Params.defaults with dtUs := 0 }).cfg.dtUs = 0 ∧
    1000000 < (withParams { Config.Params.defaults with dtUs := 1000001 }).cfg.dtUs ∧
    31 < (withParams { Config.Params.defaults with yawAdvShift := 32 }).cfg.yawAdvShift ∧
    (withParams { Config.Params.defaults with fvmcBase := 2 }).cfg.fvmcBase % 4 ≠ 0 := by decide

/-- EncEmitsLiteralFrame: the three payloads of its examples. -/
theorem witness_encEmits : State.reset.fvPayload = 0 ∧ { State.reset with fvPayload := 1 }.fvPayload = 1 ∧
    { State.reset with fvPayload := 0xFFFFFF }.fvPayload = 0xFFFFFF#24 := by decide

/-- EncodeFormula: a payload whose check value fits 32 bits. -/
theorem witness_encodeFormula : 0x104C11DB7 - 2 ^ 32 * (1 : Payload).toNat % 0x104C11DB7 ≤ 0xFFFFFFFF := by decide

/-- EncOverflowOutcome: an even and an odd overflowing payload. -/
theorem witness_encOverflow :
    2 ^ 32 * (0x36 : Payload).toNat % 0x104C11DB7 ≤ 0x04C11DB7 ∧ (0x36 : Payload).toNat % 2 = 0 ∧
    2 ^ 32 * (0x6D : Payload).toNat % 0x104C11DB7 ≤ 0x04C11DB7 ∧ (0x6D : Payload).toNat % 2 = 1 := by decide

/-- DecVerifiesFrame: its three frames. -/
theorem witness_decVerifies : (holding 0 0).frameHi = 0 ∧ (holding 0 0).frameLo = 0 ∧
    (holding 0xFFFFFF 0xFFFFFFFF).frameHi = 0xFFFFFF#24 ∧ (holding 0xFFFFFF 0xFFFFFFFF).frameLo = 0xFFFFFFFF#32 ∧
    (holding 0x123456 0xF0F25232).frameHi = 0x123456#24 ∧ (holding 0x123456 0xF0F25232).frameLo = 0xF0F25232#32 := by
  decide

/-- DecodeStepIsShared. -/
theorem witness_seventhPush : { State.reset with rxCnt := 6 }.rxCnt = 6#3 := by decide

/-- RejectionZeroesMotorsOnce: a rejected DEC in TURNING, whose next TICK stays in TURNING, and a rejected RXPUSH. -/
theorem witness_rejection :
    (let s := { turningTo 90000 with frameLo := 1 }
     s.frame.toNat % 0x104C11DB7 ≠ 0 ∧ s.phase ≠ .idle ∧ nextView (·.phase) (exec .tick s) = some .turning) ∧
    (let s := { State.reset with rxCnt := 6 }
     s.rxCnt = 6#3 ∧ (s.rxBuf ++ 1#8).toNat % 0x104C11DB7 ≠ 0) := by decide

/-- DeliverablePayloads: an accepted frame, a payload that no accepted frame carries, and six bytes held. -/
theorem witness_deliverable :
    (accepts 0x0000000104C11DB7#56 = true ∧ (0x0000000104C11DB7#56).extractLsb' 32 24 = (1 : Payload)) ∧
    { State.reset with rxCnt := 6 }.rxCnt = 6#3 ∧
    ¬ ∃ v : Frame, accepts v = true ∧ v.extractLsb' 32 24 = 0x000036#24 := by
  refine ⟨by decide, by decide, ?_⟩
  rintro ⟨v, ha, hp⟩
  have hv := of_decide_eq_true ha
  have hp := congrArg BitVec.toNat hp
  have hb := v.isLt
  simp only [BitVec.extractLsb'_toNat, BitVec.toNat_ofNat, Nat.shiftRight_eq_div_pow] at hp
  unfold Config.divisor at hv
  have hq : v.toNat / 2 ^ 32 = 0x36 := by omega
  omega

/-- StepDeliversOnlyAcceptedFrames: a state that shows payload 1 as valid, about to decode the frame of payload 1. -/
theorem witness_delivers :
    let s := { holding 1 0x04C11DB7 with fvResult := ⟨1, true, false, true⟩, pending := [commandEvent .dec] }
    s.fvResult.valid = true ∧ s.DeliveredByAcceptedFrame ∧ ∃ t, step s = .next t :=
  ⟨rfl, fun _ => ⟨0x0000000104C11DB7#56, by decide, by decide⟩, _, rfl⟩

/-- OneAndTwoBitErrorsRejected: an accepted frame, with the first and the last bits. -/
theorem witness_bitErrors : accepts (holding 0xFFFFFF 0x9B9FF795).frame = true ∧ 0 < 56 ∧ 55 < 56 ∧ 0 < 1 ∧ 54 < 55 := by
  decide

/-- RxpushAssembles: the first and the last byte that is only kept, and the seventh. -/
theorem witness_rxpush : State.reset.rxCnt.toNat < 6 ∧ State.reset.rxBuf.toNat < 256 ^ State.reset.rxCnt.toNat ∧
    (let s := { State.reset with rxCnt := 5, rxBuf := 0xFFFFFFFFFF }
     s.rxCnt.toNat < 6 ∧ s.rxBuf.toNat < 256 ^ s.rxCnt.toNat) ∧ ¬ { State.reset with rxCnt := 6 }.rxCnt.toNat < 6 ∧
    ∃ t, exec .enc State.reset = .next t := ⟨by decide, by decide, by decide, by decide, _, rfl⟩

/-- RxflushDiscards, InvariantAtReset's premise, and a state of the invariant with a task running. -/
theorem witness_rxflush : State.reset.Inv ∧ State.reset.rxCnt = 0 := by decide

/-- SevenPushesReceiveBigEndian. -/
theorem witness_sevenPushes :
    (let s := presenting ((List.range 7).map fun k => commandEvent (.rxpush (wireByte 0xFFFFFF9B9FF795#56 k)))
     s.cfg.inRange = true ∧ s.rxCnt = 0 ∧ s.rxBuf = 0 ∧ s.pending.length = 7) ∧
    (wireByte 0xFFFFFF9B9FF795#56 0, wireByte 0xFFFFFF9B9FF795#56 6) = (0xFF#8, 0x95#8) := by decide

/-- HeadingErrorIsShortestRotation: an exact half turn, and another rotation of the same difference. -/
theorem witness_headingError : ((180000 : Int) - 0) % 360000 = 180000 ∧ (360000 : Int) ∣ (180000 - 0) - 180000 := by
  decide

/-- CorrectionBands: the error at each side of 0. -/
theorem witness_correction : (0 : Int) ≤ 0 ∧ (-1 : Int) < 0 ∧ correction 0 = 0 ∧ correction (-1) = 100001 := by decide

/-- ZeroEventsOnlyAtThreePlaces: each of the three places, and the two holds. -/
theorem witness_zeroEvents :
    nextView (·.zeroCnt) (step (presenting [commandEvent .halt])) = some 1#32 ∧
    nextView (fun t => (t.zeroCnt, t.rejectCnt))
      (step { presenting [commandEvent .dec] with frameLo := 1 }) = some (1#32, 1#16) ∧
    nextView (fun t => (t.zeroCnt, t.doneCnt))
      (step { advancingOver 0 with inTol := 1, pending := [commandEvent .tick] }) = some (1#32, 1#32) ∧
    (let s := { turningTo 0 with sensValid := 2 }
     s.phase = .turning ∧ s.sensValid.getLsbD 0 = false) ∧
    (let s := { advancingOver 0 with sensValid := 1 }
     s.phase = .advancing ∧ s.sensValid ≠ 3#2) := by decide

/-- EnqAppendsOrRaisesQfull: a FIFO with room, and a full one. -/
theorem witness_enq : State.reset.fifo.length ≠ State.reset.cfg.qDepth ∧
    { State.reset with fifo := List.replicate 8 ⟨0, 0⟩ }.fifo.length = State.reset.cfg.qDepth := by decide

/-- HaltStopsMotors. -/
theorem witness_halt : ∃ t, exec .halt (turningTo 90000) = .next t := ⟨_, rfl⟩

/-- HaltGuarantee: TICKs before a later ENQ, and no TICK after it. -/
theorem witness_haltGuarantee :
    let s := presenting ([commandEvent .halt] ++ [commandEvent .tick] ++ [commandEvent .enq] ++ [commandEvent .tick])
    s.cfg.inRange = true ∧ decode 0x11#32 = .ok .halt ∧ (∀ e ∈ [commandEvent .tick], ¬ issues .enq e) ∧
    (∀ e ∈ [commandEvent .enq], ¬ issues .tick e) ∧
    s.pending = .write (regAddr .cmd) 0x11#32 ::
      ([commandEvent .tick] ++ [commandEvent .enq] ++ [commandEvent .tick]) := by
  refine ⟨by decide, by decide, ?_, ?_, by decide⟩
  · intro e he h
    rw [List.mem_singleton.mp he] at h
    exact absurd h.2 (by decide)
  · intro e he h
    rw [List.mem_singleton.mp he] at h
    exact absurd h.2 (by decide)

/-- StepKeepsHalted: a halted machine about to serve a TICK, and an idle one about to serve an ENQ. -/
theorem witness_keepsHalted :
    (let s := presenting [commandEvent .tick]
     s.phase = .idle ∧ s.fifo = [] ∧ s.motorsStopped ∧
      (∀ e rest, s.pending = e :: rest → ¬ issues .enq e) ∧ ∃ t, step s = .next t) ∧
    (let s := presenting [commandEvent .enq]
     s.phase = .idle ∧ s.motorsStopped ∧
      (∀ e rest, s.pending = e :: rest → ¬ issues .tick e) ∧ ∃ t, step s = .next t) := by
  refine ⟨⟨by decide, by decide, by decide, ?_, _, rfl⟩, by decide, by decide, ?_, _, rfl⟩
  · rintro e rest ⟨⟩ h
    exact absurd h.2 (by decide)
  · rintro e rest ⟨⟩ h
    exact absurd h.2 (by decide)

/-- TickIdleDoesNothing. -/
theorem witness_tickIdle : State.reset.phase = .idle ∧ State.reset.fifo = [] := by decide

/-- TickStartsHeadTask. -/
theorem witness_tickStarts : { State.reset with fifo := [⟨0, 90000⟩] }.phase = .idle ∧
    { State.reset with fifo := [⟨0, 90000⟩] }.fifo = ⟨0, 90000⟩ :: [] := by decide

/-- TickTurns: with INTOL at each of its two values. -/
theorem witness_tickTurns : (turningTo 0).phase = .turning ∧ (turningTo 0).sensValid.getLsbD 0 = true ∧
    (turningTo 0).inTol.toNat ≤ 1 ∧ { turningTo 0 with inTol := 1 }.inTol.toNat ≤ 1 := by decide

/-- TickHoldsWhileBlind: both of its alternatives, the second with either sensor invalid. -/
theorem witness_tickHolds : (let s := { turningTo 0 with sensValid := 2 }
     s.phase = .turning ∧ s.sensValid.getLsbD 0 = false) ∧
    (let s := { advancingOver 0 with sensValid := 1 }
     s.phase = .advancing ∧ s.sensValid ≠ 3#2) ∧
    (let s := { advancingOver 0 with sensValid := 2 }
     s.phase = .advancing ∧ s.sensValid ≠ 3#2) := by decide

/-- TickAdvances: with INTOL at each of its two values. -/
theorem witness_tickAdvances : (advancingOver 2000).phase = .advancing ∧ (advancingOver 2000).sensValid = 3#2 ∧
    (advancingOver 2000).inTol.toNat ≤ 1 ∧ { advancingOver 2000 with inTol := 1 }.inTol.toNat ≤ 1 := by decide

/-- HerrEvaluates: the operands of its corner cases. -/
theorem witness_herr : { State.reset with opa := 180000 }.opa.toInt - State.reset.opb.toInt = 180000 ∧
    { State.reset with opa := 0x80000000, opb := 0x7FFFFFFF }.opb = 0x7FFFFFFF#32 ∧
    { State.reset with opa := 350000, opb := 10000 }.opa = 350000#32 := by decide

/-- CorrEvaluates: the operands of its corner cases. -/
theorem witness_corr : State.reset.opa = 0#32 ∧ { State.reset with opa := 0x80000000 }.opa = 0x80000000#32 ∧
    { State.reset with opa := 0xFFFFFFFF }.opa = 0xFFFFFFFF#32 ∧
    { State.reset with opa := 0xFFFFB1E0 }.opa = 0xFFFFB1E0#32 := by decide

/-- DiagnosticsDisturbNothing: a TICK in a running phase answers a next state. -/
theorem witness_diagnostics : ∃ u, exec .tick (turningTo 90000) = .next u := ⟨_, rfl⟩

/-- TurningEndsOnTwoConsecutiveReads: headings 0, 9500, 8000, 9800, 10400 of T6 (spec/95_test_vectors.md). -/
theorem witness_turning :
    let s := { turningTo 10000 with pending := headingReads ([0#32, 9500#32, 8000#32] ++ [9800#32, 10400#32]) }
    s.cfg.inRange = true ∧ s.phase = .turning ∧ s.sensValid.getLsbD 0 = true ∧ s.inTol = 0 ∧
    headingInTol s.mcTarget 9800#32 ∧ headingInTol s.mcTarget 10400#32 ∧
    NoTwoInARow (headingInTol s.mcTarget) ([0#32, 9500#32, 8000#32] ++ [9800#32]) := by
  refine ⟨by decide, by decide, by decide, by decide, by decide, by decide, ?_⟩
  rintro (_ | ⟨x, _ | ⟨y, _ | ⟨z, _ | ⟨u, pre⟩⟩⟩⟩) a b post h ⟨ha, hb⟩ <;> simp at h
  · obtain ⟨rfl, rfl, _⟩ := h
    exact absurd ha (by decide)
  · obtain ⟨_, rfl, rfl, _⟩ := h
    exact absurd hb (by decide)
  · obtain ⟨_, _, rfl, rfl, _⟩ := h
    exact absurd ha (by decide)

/-- BlindTaskHoldsForEver: three TICKs. -/
theorem witness_blind :
    let s := { turningTo 90000 with sensValid := 2, pending := List.replicate (2 + 1) (commandEvent .tick) }
    s.cfg.inRange = true ∧ s.phase ≠ .idle ∧ s.sensValid.getLsbD 0 = false := by decide

/-- BusReadReturnsRegister: CMD, the last mapped word, and the unmapped words at the limits of their ranges. -/
theorem witness_busRead : (presenting [.read 0#6]).cfg.inRange = true ∧ 4 * (28#6).toNat = regOffset .sensValid ∧
    [22#6, 23#6, 29#6, 63#6].all (fun a => allRegs.all fun r => 4 * a.toNat ≠ regOffset r) = true := by decide

/-- BusWriteByAccessCode: a word for each of its clauses. -/
theorem witness_busWrite : (presenting [.write 0#6 0#32]).cfg.inRange = true ∧
    (4 * (2#6).toNat = regOffset .fvPayload ∧ regAccess .fvPayload = .rw) ∧
    (4 * (28#6).toNat = regOffset .sensValid ∧ regAccess .sensValid = .rw) ∧
    (4 * (5#6).toNat = regOffset .fvResult ∧ regAccess .fvResult = .ro) ∧
    (4 * (21#6).toNat = regOffset .mcTaskDist ∧ regAccess .mcTaskDist = .ro) ∧
    [22#6, 23#6, 29#6, 63#6].all (fun a => allRegs.all fun r => 4 * a.toNat ≠ regOffset r) = true := by decide

/-- ReservedBitsReadZeroIgnoreWrites, AccessIdempotency: an RW and the W1C register, and two values that differ in
reserved bits alone. -/
theorem witness_reservedBits : regAccess .mcDist = .rw ∧ regAccess .err = .w1c ∧
    0xFFF00001#32 &&& namedBits .mcDist = 0x00000001#32 &&& namedBits .mcDist ∧
    0xFFFFFF80#32 &&& namedBits .err = 0x00000000#32 &&& namedBits .err := by decide

/-- AtMostOneFlagPerAccess, ParametersNeverChange, BaseAddressAffectsNoRule, StepKeepsInvariant: a step from a state of
the invariant in which a task runs, and a base address. -/
theorem witness_step :
    let s := { turningTo 90000 with pending := [commandEvent .tick] }
    s.Inv ∧ (∃ t, step s = .next t) ∧ (∃ t, exec .tick s = .next t) ∧ 0x40000000 % 4 = 0 :=
  ⟨by decide, ⟨_, rfl⟩, ⟨_, rfl⟩, rfl⟩

/-- PseudoInstructionsRun: the limits of the distance, and operands of `herr_of`. -/
theorem witness_pseudo :
    let s := presenting (pseudoEvents (.task (2 ^ 20 - 1) (-5000)) ++ pseudoEvents (.herrOf (-(2 ^ 31)) (2 ^ 31 - 1)))
    s.cfg.inRange = true ∧ s.fifo.length < s.cfg.qDepth ∧ asmValueOk (-5000) = true ∧ s.pending.length = 6 := by decide

/-- ResetSetsEverything, ResetLeavesTheHostsFields: the reset input in a running task. -/
theorem witness_reset : { turningTo 90000 with pending := [.reset] }.cfg.inRange = true ∧
    { turningTo 90000 with pending := [.reset] }.pending = .reset :: [] := by decide

/-- NoAccessNoChange. -/
theorem witness_noAccess : State.reset.cfg.inRange = true ∧ State.reset.pending = [] := by decide

/-- ReachableStatesLegal: a run from reset of a task's start. -/
theorem witness_reachable : Config.Params.defaults.inRange = true ∧
    ∃ t : State, Host.Core.run Sys2Proof.core 2 { State.reset with
      cfg := Config.Params.defaults, pending := [commandEvent .enq, commandEvent .tick] } = .next t :=
  ⟨by decide, _, rfl⟩

end Sys2Proof.Tests
end

namespace Sys2Proof.Machine

/-! ## The fields of the register words (spec/10_state.md R23 to R43) -/

/-- Two fields side by side: the upper one counts in units of the lower one's width. -/
theorem toNat_append_eq_add {m n : Nat} (hi : BitVec m) (lo : BitVec n) :
    (hi ++ lo).toNat = hi.toNat * 2 ^ n + lo.toNat := by
  rw [BitVec.toNat_append, ← Nat.shiftLeft_add_eq_or_of_lt lo.isLt, Nat.shiftLeft_eq]

/-- FV_RESULT as a sum of its fields (R28). -/
theorem fvResultWord_toNat (r : FvResult) : (fvResultWord r).toNat =
    r.decoded.toNat * 2 ^ 26 + r.src.toNat * 2 ^ 25 + r.valid.toNat * 2 ^ 24 + r.payload.toNat := by
  simp only [fvResultWord, toNat_append_eq_add, BitVec.toNat_ofBool, BitVec.toNat_ofNat]
  omega

/-- FV_STAT as a sum of its fields (R29). -/
theorem fvStatWord_toNat (s : State) : (fvStatWord s).toNat = s.lastEncOvf.toNat * 2 ^ 3 + s.rxCnt.toNat := by
  simp only [fvStatWord, toNat_append_eq_add, BitVec.toNat_ofBool, BitVec.toNat_ofNat]
  omega

/-- MC_STATE as a sum of its fields (R33). -/
theorem mcStateWord_toNat (s : State) : (mcStateWord s).toNat =
    s.headDefaulted.toNat * 2 ^ 11 + s.still.toNat * 2 ^ 8 + s.inTol.toNat * 2 ^ 6 +
      s.fifo.length % 2 ^ 4 * 2 ^ 2 + s.phase.code.toNat := by
  simp only [mcStateWord, toNat_append_eq_add, BitVec.toNat_ofBool, BitVec.toNat_ofNat]
  omega

/-- A field of a word, by the number it stands for. -/
theorem extractLsb'_eq_of_toNat {v : Word} {i n : Nat} {x : BitVec n} (h : v.toNat / 2 ^ i % 2 ^ n = x.toNat) :
    v.extractLsb' i n = x :=
  BitVec.eq_of_toNat_eq (by rw [BitVec.extractLsb'_toNat, Nat.shiftRight_eq_div_pow, h])

theorem fvStat_rxCnt (s : State) : (readReg .fvStat s).extractLsb' 0 3 = s.rxCnt :=
  extractLsb'_eq_of_toNat (by rw [readReg, fvStatWord_toNat]; omega)

theorem mcState_phase (s : State) : (readReg .mcState s).extractLsb' 0 2 = s.phase.code :=
  extractLsb'_eq_of_toNat (by rw [readReg, mcStateWord_toNat]; omega)

theorem mcState_qcount (s : State) : (readReg .mcState s).extractLsb' 2 4 = BitVec.ofNat 4 s.fifo.length :=
  extractLsb'_eq_of_toNat (by rw [readReg, mcStateWord_toNat, BitVec.toNat_ofNat]; omega)

theorem mcState_inTol (s : State) : (readReg .mcState s).extractLsb' 6 2 = s.inTol :=
  extractLsb'_eq_of_toNat (by rw [readReg, mcStateWord_toNat]; omega)

theorem mcState_still (s : State) : (readReg .mcState s).extractLsb' 8 3 = s.still :=
  extractLsb'_eq_of_toNat (by rw [readReg, mcStateWord_toNat]; omega)

/-! ## MC_POS and MC_VEL (R35, R36) -/

/-- The position in mm keeps within 2^22, because 2^63 position units are less than 2^22 mm (R35). -/
theorem posMm_range (s : State) : -(2 ^ 22) ≤ s.posMm ∧ s.posMm < 2 ^ 22 := by
  have hlo := BitVec.le_toInt s.pX
  have hhi := BitVec.toInt_lt (x := s.pX)
  unfold State.posMm fdiv sext Config.posUnitsPerMm
  omega

/-- Settles O44: the position in mm keeps within 2^22, so its 32-bit pattern is read back exactly. -/
theorem mcPosAlwaysFits : Obligations.McPosAlwaysFits := by
  intro s
  obtain ⟨hlo, hhi⟩ := posMm_range s
  exact ⟨BitVec.toInt_ofInt_eq_self (by decide) (by omega) (by omega), hlo, hhi⟩

/-- The velocity in mm/s is clamped to 32 bits (R36). -/
theorem velMmS_range (s : State) : -(2 ^ 31) ≤ s.velMmS ∧ s.velMmS ≤ 2 ^ 31 - 1 := satS32_range _

/-- Settles O45: `sat_S32` gives a value that its 32-bit pattern holds exactly. -/
theorem mcVelSaturates : Obligations.McVelSaturates := by
  intro s
  obtain ⟨hlo, hhi⟩ := velMmS_range s
  exact BitVec.toInt_ofInt_eq_self (by decide) (by omega) (by omega)

/-! ## Reserved bits (R23) -/

/-- How many bits of a register a rule names; they are always the lowest (R23 to R43). -/
def namedWidth : Reg → Nat
  | .cmd => 0
  | .err => 7
  | .fvPayload | .fvFrameHi => 24
  | .fvResult => 27
  | .fvStat => 4
  | .mcDist | .mcTaskDist => 20
  | .mcState => 12
  | .motYaw | .motFwd => 17
  | .sensValid => 2
  | .fvFrameLo | .fvCount | .mcTurn | .mcTarget | .mcPos | .mcVel | .zeroCnt | .doneCnt | .opa | .opb | .opres
  | .sensHead | .sensAx | .sensAy | .sensAz => 32

theorem namedBits_eq_lowMask (r : Reg) : namedBits r = BitVec.ofNat 32 (2 ^ namedWidth r - 1) := by
  cases r <;> rfl

/-- Every register's value fits its named bits. -/
theorem readReg_toNat_lt (r : Reg) (s : State) : (readReg r s).toNat < 2 ^ namedWidth r := by
  cases r with
  | fvResult =>
    rw [readReg, fvResultWord_toNat, namedWidth]
    have hp := s.fvResult.payload.isLt
    have hd := Bool.toNat_le s.fvResult.decoded
    have hs := Bool.toNat_le s.fvResult.src
    have hv := Bool.toNat_le s.fvResult.valid
    omega
  | fvStat =>
    rw [readReg, fvStatWord_toNat, namedWidth]
    have hr := s.rxCnt.isLt
    have ho := Bool.toNat_le s.lastEncOvf
    omega
  | mcState =>
    rw [readReg, mcStateWord_toNat, namedWidth]
    have hp := s.phase.code.isLt
    have hi := s.inTol.isLt
    have hs := s.still.isLt
    have hd := Bool.toNat_le s.headDefaulted
    omega
  | cmd => exact Nat.one_pos
  | err | fvPayload | fvFrameHi | mcDist | mcTaskDist | motYaw | motFwd | sensValid =>
    rw [readReg, BitVec.toNat_setWidth_of_le (by decide)]
    exact BitVec.isLt _
  | fvFrameLo | fvCount | mcTurn | mcTarget | mcPos | mcVel | zeroCnt | doneCnt | opa | opb | opres
  | sensHead | sensAx | sensAy | sensAz => exact BitVec.isLt _

/-- A word below `2 ^ k` has no bit outside the low `k`. -/
theorem and_not_lowMask_of_lt {v : Word} {k : Nat} (h : v.toNat < 2 ^ k) :
    v &&& ~~~ (BitVec.ofNat 32 (2 ^ k - 1)) = 0#32 := by
  have hv : v &&& BitVec.ofNat 32 (2 ^ k - 1) = v := by
    have hn : v.toNat &&& (2 ^ k - 1) = v.toNat := by rw [Nat.and_two_pow_sub_one_eq_mod, Nat.mod_eq_of_lt h]
    simpa [hn] using (BitVec.ofNat_and (w := 32) (x := v.toNat) (y := 2 ^ k - 1)).symm
  calc v &&& ~~~ (BitVec.ofNat 32 (2 ^ k - 1))
      = v &&& BitVec.ofNat 32 (2 ^ k - 1) &&& ~~~ (BitVec.ofNat 32 (2 ^ k - 1)) := by rw [hv]
    _ = v &&& 0#32 := by rw [BitVec.and_assoc, BitVec.and_not_self]; rfl
    _ = 0#32 := BitVec.and_zero

/-- The writable bits of an RW register are its named bits (R23, R54). -/
theorem writableMask_eq_namedBits {r : Reg} (h : regAccess r = .rw) : writableMask r = namedBits r := by
  revert h
  cases r <;> decide

theorem writeReg_congr {r : Reg} {v v' : Word} (s : State) (h : v &&& writableMask r = v' &&& writableMask r) :
    writeReg r v s = writeReg r v' s := by
  simp only [writeReg, h]

theorem clearErr_congr {v v' : Word} (s : State) (h : v &&& namedBits .err = v' &&& namedBits .err) :
    s.clearErr v = s.clearErr v' := by
  have hlow : ∀ w : Word, (w &&& namedBits .err).setWidth 7 = w.setWidth 7 := by
    intro w
    rw [BitVec.setWidth_and]
    exact BitVec.and_allOnes
  rw [State.clearErr, State.clearErr, ← hlow v, ← hlow v', h]

@[simp] theorem writeReg_err (r : Reg) (v : Word) (s : State) : (writeReg r v s).err = s.err := by
  cases r <;> rfl

theorem busWrite_regAddr_of_rw {r : Reg} (h : regAccess r = .rw) (v : Word) (s : State) :
    busWrite (regAddr r) v s = .next (writeReg r v s) := by
  simp only [busWrite, regAt_regAddr, h]

theorem busWrite_regAddr_err (v : Word) (s : State) : busWrite (regAddr .err) v s = .next (s.clearErr v) := rfl

/-- Settles O41: a read fits the named bits, and a write stores or clears by the named bits alone. -/
theorem reservedBitsReadZeroIgnoreWrites : Obligations.ReservedBitsReadZeroIgnoreWrites := by
  refine ⟨?_, ?_, ?_⟩
  · intro r s
    rw [namedBits_eq_lowMask]
    exact and_not_lowMask_of_lt (readReg_toNat_lt r s)
  · rintro r s v v' (hrw | hw1c) hv
    · have hm : v &&& writableMask r = v' &&& writableMask r := by rwa [writableMask_eq_namedBits hrw]
      rw [busWrite_regAddr_of_rw hrw, busWrite_regAddr_of_rw hrw, writeReg_congr s hm]
    · obtain rfl := eq_err_of_w1c hw1c
      rw [busWrite_regAddr_err, busWrite_regAddr_err, clearErr_congr s hv]
  · rintro r s v (hrw | hw1c)
    · exact ⟨_, busWrite_regAddr_of_rw hrw v s, by rw [writeReg_err, BitVec.and_not_self]; rfl⟩
    · obtain rfl := eq_err_of_w1c hw1c
      refine ⟨_, busWrite_regAddr_err v s, ?_⟩
      rw [State.clearErr_err, BitVec.and_comm s.err, BitVec.and_assoc, BitVec.and_not_self]
      exact BitVec.and_zero

/-! ## The parameters (R213) -/

theorem decodeFrame_cfg (v : Frame) (src : Bool) (s : State) : (decodeFrame v src s).cfg = s.cfg := by
  obtain ⟨-, hd⟩ | ⟨-, hd⟩ := decodeFrame_cases s v src <;> rw [hd]

theorem turningStep_cfg (s : State) : (turningStep s).cfg = s.cfg := by
  obtain ⟨-, ht⟩ | ⟨-, ht⟩ := turningStep_cases s <;> rw [ht]

theorem advancingStep_cfg (s : State) : (advancingStep s).cfg = s.cfg := by
  obtain ⟨-, ha⟩ | ⟨-, ha⟩ := advanceControl_cases (estStep (sext s.sensAx) (sext s.sensAy) (sext s.sensAz) s) <;>
    rw [advancingStep, ha] <;> rfl

theorem runPhase_cfg (s : State) : (runPhase s).cfg = s.cfg := by
  obtain ⟨-, hr⟩ | ⟨-, -, hr⟩ | ⟨-, -, -, hr⟩ | ⟨-, hr⟩ := runPhase_cases s <;> rw [hr]
  · exact turningStep_cfg s
  · exact advancingStep_cfg s
  · rfl

/-- No command changes a parameter. -/
theorem exec_cfg {i : Instr} {s t : State} (h : exec i s = .next t) : t.cfg = s.cfg := by
  cases i with
  | enc => cases h; rfl
  | dec => cases h; exact decodeFrame_cfg _ _ s
  | rxpush b =>
    obtain ⟨-, hx⟩ | ⟨-, hx⟩ := execRxpush_cases s b <;> cases hx.symm.trans h
    · rfl
    · exact decodeFrame_cfg _ _ _
  | rxflush => cases h; rfl
  | enq => obtain ⟨-, hx⟩ | ⟨-, hx⟩ := execEnq_cases s <;> cases hx.symm.trans h <;> rfl
  | halt => cases h; rfl
  | tick =>
    obtain ⟨-, -, hx⟩ | ⟨task, rest, -, -, hx⟩ | ⟨-, hx⟩ | ⟨-, hx⟩ := execTick_cases s <;> cases hx.symm.trans h
    · rfl
    · exact runPhase_cfg (startTask task rest s)
    · exact runPhase_cfg s
    · exact runPhase_cfg s
  | herr => cases h; rfl
  | corr => cases h; rfl

theorem writeReg_cfg (r : Reg) (v : Word) (s : State) : (writeReg r v s).cfg = s.cfg := by
  cases r <;> rfl

theorem busWrite_cfg {a : WordAddr} {v : Word} {s t : State} (h : busWrite a v s = .next t) : t.cfg = s.cfg := by
  obtain ⟨-, hb⟩ | ⟨r, -, -, hb⟩ | ⟨r, -, -, hb⟩ | ⟨-, hb⟩ | ⟨-, hb⟩ := busWrite_cases s a v
  · cases hb.symm.trans h; rfl
  · cases hb.symm.trans h; rfl
  · cases hb.symm.trans h; exact writeReg_cfg r v s
  · cases hb.symm.trans h; rfl
  · obtain ⟨i, -, hc⟩ | ⟨e, -, hc⟩ := executeCommand_cases s v
    · exact exec_cfg (hc.symm.trans (hb.symm.trans h))
    · cases hc.symm.trans (hb.symm.trans h); rfl

theorem hostEvent_cfg {e : HostEvent} {s t : State} (h : hostEvent e s = .next t) : t.cfg = s.cfg := by
  cases e with
  | read a => cases h; rfl
  | write a v => exact busWrite_cfg h
  | reset => cases h; rfl

/-- No step changes a parameter (R213). -/
theorem step_cfg {s t : State} (h : step s = .next t) : t.cfg = s.cfg := by
  obtain ⟨-, ⟨-, rfl⟩ | ⟨e, rest, -, he⟩⟩ := step_next_cases h
  · rfl
  · exact (hostEvent_cfg he :)

/-! ## The invariant of R48 and R44, operation by operation -/

/-- Every correction code lies in one of the two bands (R37, R121). -/
theorem motorCodeLegal_speedCode (e : Int) : motorCodeLegal (speedCode e) := by
  have hc := correction_cases e
  have hn : (speedCode e).toNat = (correction e).toNat := by
    rw [speedCode, BitVec.toNat_ofInt, Int.emod_eq_of_lt] <;> omega
  unfold motorCodeLegal
  omega

/-- Stopped motors meet all that the invariant asks of the motors. -/
theorem motors_of_stopped {s : State} (h : s.motorsStopped) :
    (s.phase = .idle → s.motorsStopped) ∧ motorCodeLegal s.motYaw ∧ motorCodeLegal s.motFwd := by
  have hz : motorCodeLegal 0 := Or.inl (Nat.zero_le _)
  obtain ⟨hyaw, hfwd⟩ := h
  exact ⟨fun _ => ⟨hyaw, hfwd⟩, by rwa [hyaw], by rwa [hfwd]⟩

/-- A count that has not reached `CONV_N` is still at most 1 (R142, R145). -/
theorem countInTol_le_one {ok : Bool} {n : BitVec 2} (hn : n.toNat ≤ 1) (h : countInTol ok n ≠ 2#2) :
    (countInTol ok n).toNat ≤ 1 := by
  revert ok n
  decide

/-- With fewer than six bytes held, the pushed byte fits the buffer (R44, R100). -/
theorem appendByte_toNat_lt {buf : BitVec 48} {n : Nat} (b : Byte) (h : buf.toNat < 256 ^ n) :
    (appendByte buf b).toNat < 256 ^ (n + 1) := by
  have hb := b.isLt
  have ha : (appendByte buf b).toNat ≤ buf.toNat * 256 + b.toNat := by
    rw [appendByte, BitVec.toNat_setWidth, toNat_append_eq_add]
    exact Nat.mod_le _ _
  rw [pow_succ]
  omega

theorem decodeFrame_inv (v : Frame) (src : Bool) {s : State} (h : s.Inv) : (decodeFrame v src s).Inv := by
  obtain ⟨-, hd⟩ | ⟨-, hd⟩ := decodeFrame_cases s v src <;> rw [hd]
  · exact h
  · obtain ⟨hfifo, htol, hstill, htarget, hcnt, hbuf, -⟩ := h
    exact ⟨hfifo, htol, hstill, htarget, hcnt, hbuf, motors_of_stopped ⟨rfl, rfl⟩⟩

theorem flushed_inv {s : State} (h : s.Inv) : { s with rxBuf := 0, rxCnt := 0 }.Inv := by
  obtain ⟨hfifo, htol, hstill, htarget, -, -, hmot⟩ := h
  exact ⟨hfifo, htol, hstill, htarget, Nat.zero_le _, Nat.one_pos, hmot⟩

theorem execRxpush_inv {b : Byte} {s t : State} (h : s.Inv) (hx : execRxpush b s = .next t) : t.Inv := by
  obtain ⟨hlt, hp⟩ | ⟨-, hp⟩ := execRxpush_cases s b <;> cases hp.symm.trans hx
  · obtain ⟨hfifo, htol, hstill, htarget, -, hbuf, hmot⟩ := h
    have hc : (s.rxCnt + 1).toNat = s.rxCnt.toNat + 1 := by
      rw [BitVec.toNat_add, show (1 : BitVec 3).toNat = 1 from rfl, Nat.mod_eq_of_lt (by omega)]
    refine ⟨hfifo, htol, hstill, htarget, ?_, ?_, hmot⟩
    · show (s.rxCnt + 1).toNat ≤ 6
      omega
    · show (appendByte s.rxBuf b).toNat < 256 ^ (s.rxCnt + 1).toNat
      rw [hc]
      exact appendByte_toNat_lt b hbuf
  · exact decodeFrame_inv _ _ (flushed_inv h)

theorem execEnq_inv {s t : State} (h : s.Inv) (hx : execEnq s = .next t) : t.Inv := by
  obtain ⟨-, hq⟩ | ⟨hroom, hq⟩ := execEnq_cases s <;> cases hq.symm.trans hx
  · exact h
  · obtain ⟨hfifo, hrest⟩ := h
    refine ⟨?_, hrest⟩
    rw [List.length_append, List.length_singleton]
    exact Nat.lt_of_le_of_ne hfifo hroom

theorem execHalt_inv {s t : State} (h : s.Inv) (hx : execHalt s = .next t) : t.Inv := by
  cases hx
  obtain ⟨-, htol, hstill, htarget, hcnt, hbuf, -⟩ := h
  exact ⟨Nat.zero_le _, htol, hstill, htarget, hcnt, hbuf, motors_of_stopped ⟨rfl, rfl⟩⟩

/-- A heading taken modulo a full turn is a legal MC_TARGET (R34, R141). -/
theorem targetWord_toNat_lt (a : Int) : (BitVec.ofInt 32 (fmod a Config.fullTurn)).toNat < 360000 := by
  obtain ⟨hlo, hhi⟩ : 0 ≤ fmod a Config.fullTurn ∧ fmod a Config.fullTurn < 360000 := fmod_range a (by decide)
  rw [BitVec.toNat_ofInt, Int.emod_eq_of_lt hlo (by omega)]
  omega

/-- A task's start drops the head of the FIFO and takes a target in `[0, 360000)` (R141). -/
theorem startTask_inv {task : Task} {rest : List Task} {s : State} (h : s.Inv) (hf : s.fifo = task :: rest) :
    (startTask task rest s).Inv := by
  obtain ⟨hfifo, -, -, -, hcnt, hbuf, -, hyaw, hfwd⟩ := h
  refine ⟨?_, Nat.zero_le _, Nat.zero_le _, ?_, hcnt, hbuf, nofun, hyaw, hfwd⟩
  · rw [hf] at hfifo
    exact Nat.le_of_succ_le hfifo
  · exact targetWord_toNat_lt _

theorem turningStep_inv {s : State} (h : s.Inv) (hp : s.phase = .turning) : (turningStep s).Inv := by
  obtain ⟨hfifo, htol, hstill, htarget, hcnt, hbuf, -, hyaw, hfwd⟩ := h
  obtain ⟨-, ht⟩ | ⟨hne, ht⟩ := turningStep_cases s <;> rw [ht]
  · exact ⟨hfifo, Nat.zero_le _, hstill, htarget, hcnt, hbuf, nofun, hyaw, hfwd⟩
  · exact ⟨hfifo, countInTol_le_one htol hne, hstill, htarget, hcnt, hbuf,
      fun hidle => absurd (hp.symm.trans hidle) nofun, motorCodeLegal_speedCode _, Or.inl (Nat.zero_le _)⟩

theorem estStep_inv (ax ay az : Int) {s : State} (h : s.Inv) : (estStep ax ay az s).Inv := by
  obtain ⟨c, n, a, v, p, he⟩ := estStep_shape s ax ay az
  obtain ⟨hfifo, htol, -, hrest⟩ := h
  rw [he]
  exact ⟨hfifo, htol, countStill_le n s.still, hrest⟩

theorem advanceControl_inv {s : State} (h : s.Inv) (hp : s.phase = .advancing) : (advanceControl s).Inv := by
  obtain ⟨hfifo, htol, hstill, htarget, hcnt, hbuf, -⟩ := h
  obtain ⟨-, ha⟩ | ⟨hne, ha⟩ := advanceControl_cases s <;> rw [ha]
  · exact ⟨hfifo, Nat.zero_le _, hstill, htarget, hcnt, hbuf, motors_of_stopped ⟨rfl, rfl⟩⟩
  · exact ⟨hfifo, countInTol_le_one htol hne, hstill, htarget, hcnt, hbuf,
      fun hidle => absurd (hp.symm.trans hidle) nofun, motorCodeLegal_speedCode _, motorCodeLegal_speedCode _⟩

theorem sensorHold_inv {s : State} (h : s.Inv) : (sensorHold s).Inv := by
  obtain ⟨hfifo, -, hstill, htarget, hcnt, hbuf, -⟩ := h
  exact ⟨hfifo, Nat.zero_le _, hstill, htarget, hcnt, hbuf, motors_of_stopped ⟨rfl, rfl⟩⟩

theorem runPhase_inv {s : State} (h : s.Inv) : (runPhase s).Inv := by
  obtain ⟨-, hr⟩ | ⟨hp, -, hr⟩ | ⟨hp, -, -, hr⟩ | ⟨-, hr⟩ := runPhase_cases s <;> rw [hr]
  · exact h
  · exact turningStep_inv h hp
  · exact advanceControl_inv (estStep_inv _ _ _ h) hp
  · exact sensorHold_inv h

theorem execTick_inv {s t : State} (h : s.Inv) (hx : execTick s = .next t) : t.Inv := by
  obtain ⟨-, -, ht⟩ | ⟨task, rest, -, hf, ht⟩ | ⟨-, ht⟩ | ⟨-, ht⟩ := execTick_cases s <;> cases ht.symm.trans hx
  · exact h
  · exact runPhase_inv (startTask_inv h hf)
  · exact runPhase_inv h
  · exact runPhase_inv h

/-- Every command keeps the invariant. -/
theorem exec_inv {i : Instr} {s t : State} (h : s.Inv) (hx : exec i s = .next t) : t.Inv := by
  cases i with
  | enc => cases hx; exact h
  | dec => cases hx; exact decodeFrame_inv _ _ h
  | rxpush b => exact execRxpush_inv h hx
  | rxflush => cases hx; exact flushed_inv h
  | enq => exact execEnq_inv h hx
  | halt => exact execHalt_inv h hx
  | tick => exact execTick_inv h hx
  | herr => cases hx; exact h
  | corr => cases hx; exact h

theorem writeReg_inv (r : Reg) (v : Word) {s : State} (h : s.Inv) : (writeReg r v s).Inv := by
  cases r <;> exact h

theorem busWrite_inv {a : WordAddr} {v : Word} {s t : State} (h : s.Inv) (hx : busWrite a v s = .next t) : t.Inv := by
  obtain ⟨-, hb⟩ | ⟨r, -, -, hb⟩ | ⟨r, -, -, hb⟩ | ⟨-, hb⟩ | ⟨-, hb⟩ := busWrite_cases s a v
  · cases hb.symm.trans hx; exact h
  · cases hb.symm.trans hx; exact h
  · cases hb.symm.trans hx; exact writeReg_inv r v h
  · cases hb.symm.trans hx; exact h
  · obtain ⟨i, -, hc⟩ | ⟨e, -, hc⟩ := executeCommand_cases s v
    · exact exec_inv h (hc.symm.trans (hb.symm.trans hx))
    · cases hc.symm.trans (hb.symm.trans hx); exact h

/-- The reset input establishes the invariant from any state (R211). -/
theorem applyReset_inv (s : State) : s.applyReset.Inv :=
  ⟨Nat.zero_le _, Nat.zero_le _, Nat.zero_le _, (by decide : (0#32).toNat < 360000), Nat.zero_le _, Nat.one_pos,
    motors_of_stopped ⟨rfl, rfl⟩⟩

theorem hostEvent_inv {e : HostEvent} {s t : State} (h : s.Inv) (hx : hostEvent e s = .next t) : t.Inv := by
  cases e with
  | read a => cases hx; exact h
  | write a v => exact busWrite_inv h hx
  | reset => cases hx; exact applyReset_inv s

/-- Every step keeps the invariant of R48 and R44, which says nothing about the pending events. -/
theorem step_inv {s t : State} (h : s.Inv) (hs : step s = .next t) : t.Inv := by
  obtain ⟨-, ⟨-, rfl⟩ | ⟨e, rest, -, he⟩⟩ := step_next_cases hs
  · exact h
  · exact hostEvent_inv (s := { s with pending := rest }) h he

/-! ## The reachable states (R48) -/

/-- What every step keeps, every run keeps, on any machine. -/
theorem run_keeps (M : Host.Core) {P : M.State → Prop} (hstep : ∀ x y, P x → M.step x = .next y → P y) (n : Nat)
    {x y : M.State} (hx : P x) (h : M.run n x = .next y) : P y := by
  induction n generalizing x with
  | zero => cases h; exact hx
  | succ n ih =>
    cases hs : M.step x with
    | next z => exact ih (hstep x z hx hs) (by rwa [run_succ_of_step M n hs] at h)
    | fault r => rw [Host.Core.run, hs] at h; cases h
    | refused r => rw [Host.Core.run, hs] at h; cases h

/-- Every state that a run from reset reaches has the invariant and the parameters of the run. -/
theorem inv_of_run {cfg : Config.Params} {events : List HostEvent} {n : Nat} {t : State}
    (h : Host.Core.run Sys2Proof.core n { State.reset with cfg := cfg, pending := events } = .next t) :
    t.Inv ∧ t.cfg = cfg :=
  run_keeps Sys2Proof.core (P := fun s : State => s.Inv ∧ s.cfg = cfg)
    (fun _ _ ⟨hinv, hcfg⟩ hs => ⟨step_inv hinv hs, (step_cfg hs).trans hcfg⟩) n
    ⟨applyReset_inv { State.reset with cfg := cfg, pending := events }, rfl⟩ h

theorem qDepth_le_of_inRange {p : Config.Params} (h : p.inRange = true) : p.qDepth ≤ 15 := by
  simp only [Config.Params.inRange, Bool.and_eq_true, decide_eq_true_eq] at h
  omega

theorem Phase.code_le (p : Phase) : p.code.toNat ≤ 2 := by
  cases p <;> decide

theorem Phase.eq_idle_of_code {p : Phase} (h : p.code = 0#2) : p = .idle := by
  revert h
  cases p <;> decide

theorem readReg_motYaw_toNat (s : State) : (readReg .motYaw s).toNat = s.motYaw.toNat :=
  BitVec.toNat_setWidth_of_le (by decide)

theorem readReg_motFwd_toNat (s : State) : (readReg .motFwd s).toNat = s.motFwd.toNat :=
  BitVec.toNat_setWidth_of_le (by decide)

/-- A legal FIFO's length fits the four bits of QCOUNT (R33, R45). -/
theorem mcState_qcount_toNat {s : State} (h : s.fifo.length ≤ 15) :
    ((readReg .mcState s).extractLsb' 2 4).toNat = s.fifo.length := by
  rw [mcState_qcount, BitVec.toNat_ofNat, Nat.mod_eq_of_lt (by omega)]

/-- Stopped motors read as 0. -/
theorem readReg_motors_of_stopped {s : State} (h : s.motorsStopped) :
    readReg .motYaw s = 0#32 ∧ readReg .motFwd s = 0#32 := by
  obtain ⟨hyaw, hfwd⟩ := h
  exact ⟨by rw [readReg, hyaw]; rfl, by rw [readReg, hfwd]; rfl⟩

/-- Settles O54: a run from reset keeps the invariant and the parameters, and the registers read the invariant's
fields. -/
theorem reachableStatesLegal : Obligations.ReachableStatesLegal := by
  intro cfg events n t hcfg hrun
  obtain ⟨⟨hfifo, htol, hstill, htarget, hcnt, -, hidle, hyaw, hfwd⟩, rfl⟩ := inv_of_run hrun
  have hq := qDepth_le_of_inRange hcfg
  rw [mcState_qcount_toNat (hfifo.trans hq), mcState_phase, mcState_inTol, mcState_still, fvStat_rxCnt]
  refine ⟨t.phase.code_le, rfl, hfifo, htol, hstill, Nat.le_of_lt_succ htarget, hcnt, ?_, ?_⟩
  · intro hp
    exact readReg_motors_of_stopped (hidle (Phase.eq_idle_of_code hp))
  · rintro r (rfl | rfl)
    · rwa [readReg_motYaw_toNat]
    · rwa [readReg_motFwd_toNat]

end Sys2Proof.Machine

namespace Sys2Proof.Machine

/-! ## Command words, and the step that serves one (spec/30_encoding.md R70 to R72) -/

/-- A command's word has its own row of the opcode table, and ARG carries the operand. -/
theorem opcodeRow_encode (i : Instr) : opcodeRow (opField (encode i)) (argField (encode i)) = some i := by
  cases i with
  | rxpush b => revert b; decide
  | enc | dec | rxflush | enq | halt | tick | herr | corr => rfl

theorem encode_and_reservedMask (i : Instr) : encode i &&& reservedMask (opField (encode i)) = 0#32 := by
  cases i with
  | rxpush b => exact Laws.EncodingFormat.rxpush b
  | enc | dec | rxflush | enq | halt | tick | herr | corr => rfl

/-- Every command's word decodes to the command (R70 to R72). -/
theorem decode_encode_eq_ok (i : Instr) : decode (encode i) = .ok i := by
  simp only [decode, opcodeRow_encode, encode_and_reservedMask, if_true]

theorem busWrite_regAddr_cmd (w : Word) (s : State) : busWrite (regAddr .cmd) w s = executeCommand w s := rfl

theorem busWrite_cmd_encode (i : Instr) (s : State) : busWrite (regAddr .cmd) (encode i) s = exec i s := by
  simp only [busWrite_regAddr_cmd, executeCommand, decode_encode_eq_ok]

/-- A step whose next event issues a command is that command's meaning. -/
theorem step_of_commandEvent {s : State} {i : Instr} {rest : List HostEvent} (hr : s.cfg.inRange = true)
    (hp : s.pending = commandEvent i :: rest) : step s = exec i { s with pending := rest } := by
  rw [step_of_pending s hr hp]
  exact busWrite_cmd_encode i _

/-! ## The frame as seven bytes, most significant first (R27, R51) -/

theorem wireByte_toNat (v : Frame) (k : Nat) : (wireByte v k).toNat = v.toNat / 2 ^ (48 - 8 * k) % 256 := by
  rw [wireByte, BitVec.extractLsb'_toNat, Nat.shiftRight_eq_div_pow]

/-- Wire bytes 0 to 2 are FV_FRAME_HI's, most significant first (R27). -/
theorem wireByte_frame_hi (s : State) {k : Nat} (hk : k ≤ 2) :
    wireByte s.frame k = s.frameHi.extractLsb' (16 - 8 * k) 8 := by
  rw [wireByte, State.frame, BitVec.extractLsb'_append_eq_of_le (by omega)]
  congr 1
  omega

/-- Wire bytes 3 to 6 are FV_FRAME_LO's, most significant first (R27). -/
theorem wireByte_frame_lo (s : State) {k : Nat} (hk : 3 ≤ k) (hk' : k ≤ 6) :
    wireByte s.frame k = s.frameLo.extractLsb' (48 - 8 * k) 8 := by
  rw [wireByte, State.frame, BitVec.extractLsb'_append_eq_of_add_le (by omega)]

/-- The frame registers hold the frame written to them (R27). -/
theorem writeFrame_frame (v : Frame) (s : State) : (s.writeFrame v).frame = v := by
  rw [State.frame, State.writeFrame_frameHi, State.writeFrame_frameLo]
  exact (BitVec.extractLsb'_append_extractLsb'_eq_extractLsb' rfl).trans BitVec.extractLsb'_eq_self

/-! ## The receive assembler over the seven wire bytes of a frame (R44, R51, R100) -/

/-- The first `n` wire bytes of a frame, as the receive buffer holds them (R44). -/
def leadingBytes (v : Frame) (n : Nat) : BitVec 48 := BitVec.ofNat 48 (v.toNat / 2 ^ (56 - 8 * n))

theorem leadingBytes_toNat (v : Frame) {n : Nat} (hn : n ≤ 6) :
    (leadingBytes v n).toNat = v.toNat / 2 ^ (56 - 8 * n) := by
  have hlt : v.toNat / 2 ^ (56 - 8 * n) < 2 ^ 48 := by
    calc v.toNat / 2 ^ (56 - 8 * n)
        ≤ v.toNat / 2 ^ 8 := Nat.div_le_div_left (Nat.pow_le_pow_right (by decide) (by omega)) (by decide)
      _ < 2 ^ 48 := by omega
  rw [leadingBytes, BitVec.toNat_ofNat, Nat.mod_eq_of_lt hlt]

/-- One more wire byte below the first `n` gives the first `n + 1`. -/
theorem leadingBytes_append_wireByte_toNat (v : Frame) {n : Nat} (hn : n ≤ 6) :
    (leadingBytes v n ++ wireByte v n).toNat = v.toNat / 2 ^ (48 - 8 * n) := by
  rw [toNat_append_eq_add, leadingBytes_toNat v hn, wireByte_toNat, show 56 - 8 * n = 48 - 8 * n + 8 by omega, pow_add,
    ← Nat.div_div_eq_div_mul]
  exact Nat.div_add_mod' _ _

theorem appendByte_leadingBytes (v : Frame) {n : Nat} (hn : n < 6) :
    appendByte (leadingBytes v n) (wireByte v n) = leadingBytes v (n + 1) := by
  apply BitVec.eq_of_toNat_eq
  rw [appendByte, BitVec.toNat_setWidth, leadingBytes_append_wireByte_toNat v hn.le, leadingBytes, BitVec.toNat_ofNat,
    show 56 - 8 * (n + 1) = 48 - 8 * n by omega]

/-- The seventh wire byte completes the frame. -/
theorem leadingBytes_append_seventh (v : Frame) : leadingBytes v 6 ++ wireByte v 6 = v := by
  apply BitVec.eq_of_toNat_eq
  exact (leadingBytes_append_wireByte_toNat v le_rfl).trans (Nat.div_one _)

/-- The state in which the assembler holds the first `n` wire bytes of a frame, with these events still to come. -/
def State.received (v : Frame) (n : Nat) (events : List HostEvent) (s : State) : State :=
  { s with rxCnt := BitVec.ofNat 3 n, rxBuf := leadingBytes v n, pending := events }

/-- The state in which the assembler has delivered a frame to the decode step (R100), with these events still to
come. -/
def State.delivered (v : Frame) (events : List HostEvent) (s : State) : State :=
  decodeFrame v true { s.writeFrame v with rxCnt := 0, rxBuf := 0, pending := events }

/-- An empty assembler holds no wire byte. -/
theorem received_zero {s : State} (v : Frame) (hc : s.rxCnt = 0) (hb : s.rxBuf = 0) :
    s.received v 0 s.pending = s := by
  have hv : leadingBytes v 0 = 0 := by rw [leadingBytes, Nat.div_eq_of_lt v.isLt]; rfl
  rw [State.received, hv, ← hb, show BitVec.ofNat 3 0 = s.rxCnt from hc.symm]

/-- The pushes of the `m` wire bytes of a frame from byte `k` on. -/
def wirePushes (v : Frame) (k m : Nat) : List HostEvent :=
  (List.range' k m).map fun j => commandEvent (.rxpush (wireByte v j))

theorem wirePushes_succ (v : Frame) (k m : Nat) :
    wirePushes v k (m + 1) = commandEvent (.rxpush (wireByte v k)) :: wirePushes v (k + 1) m := rfl

theorem step_received_push {s : State} {v : Frame} {n : Nat} {b : Byte} {rest : List HostEvent}
    (hr : s.cfg.inRange = true) :
    step (s.received v n (commandEvent (.rxpush b) :: rest)) = execRxpush b (s.received v n rest) :=
  step_of_commandEvent (s := s.received v n (commandEvent (.rxpush b) :: rest)) hr rfl

/-- A push of the next wire byte, while it is not the seventh. -/
theorem step_received {s : State} {v : Frame} {n : Nat} {rest : List HostEvent} (hr : s.cfg.inRange = true)
    (hn : n < 6) :
    step (s.received v n (commandEvent (.rxpush (wireByte v n)) :: rest)) = .next (s.received v (n + 1) rest) := by
  have hc : (BitVec.ofNat 3 n).toNat = n := by rw [BitVec.toNat_ofNat, Nat.mod_eq_of_lt (by omega)]
  obtain ⟨-, hx⟩ | ⟨hge, -⟩ := execRxpush_cases (s.received v n rest) (wireByte v n)
  · rw [step_received_push hr, hx]
    simp only [State.received, appendByte_leadingBytes v hn, BitVec.ofNat_add]
    rfl
  · exact absurd (hc ▸ hge : 6 ≤ n) (by omega)

/-- The push of the seventh wire byte. -/
theorem step_received_seventh {s : State} {v : Frame} {rest : List HostEvent} (hr : s.cfg.inRange = true) :
    step (s.received v 6 (commandEvent (.rxpush (wireByte v 6)) :: rest)) = .next (s.delivered v rest) := by
  obtain ⟨hlt, -⟩ | ⟨-, hx⟩ := execRxpush_cases (s.received v 6 rest) (wireByte v 6)
  · exact absurd hlt (lt_irrefl 6)
  · have hbuf : (s.received v 6 rest).rxBuf = leadingBytes v 6 := rfl
    rw [step_received_push hr, hx, hbuf, leadingBytes_append_seventh]
    rfl

/-- From `k` bytes held, the pushes of the others deliver the frame. -/
theorem run_wirePushes {s : State} {v : Frame} {rest : List HostEvent} (hr : s.cfg.inRange = true) (m : Nat) {k : Nat}
    (hk : k + m = 6) :
    Host.Core.run Sys2Proof.core (m + 1) (s.received v k (wirePushes v k (m + 1) ++ rest)) =
      .next (s.delivered v rest) := by
  induction m generalizing k with
  | zero =>
    obtain rfl : k = 6 := hk
    exact run_succ_of_next 0 (step_received_seventh hr)
  | succ m ih =>
    rw [wirePushes_succ, List.cons_append, run_succ_of_next (m + 1) (step_received hr (by omega))]
    exact ih (by omega)

/-- What `decode_frame` leaves in FV_RESULT (R95). -/
theorem decodeFrame_fvResult (v : Frame) (src : Bool) (s : State) : (decodeFrame v src s).fvResult =
    { payload := if accepts v then v.extractLsb' 32 24 else 0, valid := accepts v, src := src, decoded := true } := by
  obtain ⟨ha, hd⟩ | ⟨ha, hd⟩ := decodeFrame_cases s v src <;> rw [hd, ha] <;> rfl

/-- `decode_frame` touches neither the frame registers, nor the assembler, nor the host's events (R95). -/
theorem decodeFrame_receiver (v : Frame) (src : Bool) (s : State) :
    (decodeFrame v src s).frame = s.frame ∧ (decodeFrame v src s).rxCnt = s.rxCnt ∧
      (decodeFrame v src s).pending = s.pending := by
  obtain ⟨-, hd⟩ | ⟨-, hd⟩ := decodeFrame_cases s v src <;> rw [hd] <;> exact ⟨rfl, rfl, rfl⟩

/-- Settles O20: the first `n` wire bytes stand in the buffer after `n` pushes, and the seventh delivers the frame. -/
theorem sevenPushesReceiveBigEndian : Obligations.SevenPushesReceiveBigEndian := by
  refine ⟨?_, fun v k _ => wireByte_toNat v k, ?_⟩
  · intro s
    exact ⟨wireByte_frame_hi s (by decide), wireByte_frame_hi s (by decide), wireByte_frame_hi s (by decide),
      wireByte_frame_lo s (by decide) (by decide), wireByte_frame_lo s (by decide) (by decide),
      wireByte_frame_lo s (by decide) (by decide), wireByte_frame_lo s (by decide) (by decide)⟩
  · intro s v rest hr hc hb hp
    have hrun := run_wirePushes (v := v) (rest := rest) hr 6 (k := 0) rfl
    rw [wirePushes, ← List.range_eq_range', ← hp, received_zero v hc hb] at hrun
    obtain ⟨hframe, hcnt, hpend⟩ := decodeFrame_receiver v true
      { s.writeFrame v with rxCnt := 0, rxBuf := 0, pending := rest }
    exact ⟨s.delivered v rest, hrun, hpend, hframe.trans (writeFrame_frame v s), hcnt, decodeFrame_fvResult _ _ _⟩

/-! ## The register window (spec/10_state.md R22) -/

/-- A register's bus address is its byte offset in words (R22). -/
theorem four_mul_regAddr_toNat (r : Reg) : 4 * (regAddr r).toNat = regOffset r := by
  cases r <;> rfl

theorem eq_regAddr_iff_offset (a : WordAddr) (r : Reg) : a = regAddr r ↔ 4 * a.toNat = regOffset r := by
  rw [← four_mul_regAddr_toNat, ← BitVec.toNat_inj]
  omega

/-- A word at no register's offset is unmapped (R22). -/
theorem regAt_eq_none_iff_offset (a : WordAddr) : regAt a = none ↔ ∀ r, 4 * a.toNat ≠ regOffset r := by
  constructor
  · intro hnone r hr
    rw [(eq_regAddr_iff_offset a r).mpr hr, regAt_regAddr] at hnone
    cases hnone
  · intro hoff
    cases ha : regAt a with
    | none => rfl
    | some r => exact absurd ((eq_regAddr_iff_offset a r).mp (regAt_eq_some ha)) (hoff r)

/-! ## What a register write stores and what it leaves (R54) -/

/-- A word below `2 ^ k` is kept whole by a field of `k` bits. -/
theorem setWidth_setWidth_of_toNat_lt {v : Word} {k : Nat} (h : v.toNat < 2 ^ k) :
    (v.setWidth k).setWidth 32 = v := by
  apply BitVec.eq_of_toNat_eq
  rw [BitVec.toNat_setWidth, BitVec.toNat_setWidth, Nat.mod_eq_of_lt h, Nat.mod_eq_of_lt v.isLt]

/-- The bits a write of an RW register stores fit the register's field (R23, R54). -/
theorem and_writableMask_toNat_lt {r : Reg} (h : regAccess r = .rw) (v : Word) :
    (v &&& writableMask r).toNat < 2 ^ namedWidth r := by
  rw [writableMask_eq_namedBits h, namedBits_eq_lowMask, BitVec.toNat_and, BitVec.toNat_ofNat]
  apply Nat.and_lt_two_pow
  have hpos := Nat.two_pow_pos (namedWidth r)
  exact (Nat.mod_le _ _).trans_lt (by omega)

/-- An RW register reads the written bits under its mask (R54). -/
theorem readReg_writeReg_same {r : Reg} (h : regAccess r = .rw) (v : Word) (s : State) :
    readReg r (writeReg r v s) = v &&& writableMask r := by
  cases r with
  | fvPayload | fvFrameHi | mcDist | sensValid => exact setWidth_setWidth_of_toNat_lt (and_writableMask_toNat_lt h v)
  | fvFrameLo | mcTurn | opa | opb | sensHead | sensAx | sensAy | sensAz => rfl
  | cmd | err | fvResult | fvStat | fvCount | mcState | mcTarget | mcPos | mcVel | motYaw | motFwd | zeroCnt | doneCnt
  | opres | mcTaskDist => cases h

/-- A write to one register shows in no other: the one field it stores into is read by that register alone. -/
theorem readReg_writeReg_of_ne {r r' : Reg} (h : r' ≠ r) (v : Word) (s : State) :
    readReg r' (writeReg r v s) = readReg r' s := by
  cases r with
  | cmd | err | fvResult | fvStat | fvCount | mcState | mcTarget | mcPos | mcVel | motYaw | motFwd | zeroCnt | doneCnt
  | opres | mcTaskDist => rfl
  | fvPayload | fvFrameHi | fvFrameLo | mcDist | mcTurn | opa | opb | sensHead | sensAx | sensAy | sensAz
  | sensValid => cases r' <;> trivial

/-- A register write changes no element that no register shows, and neither the parameters nor the host's fields. -/
theorem writeReg_internals (r : Reg) (v : Word) (s : State) :
    (writeReg r v s).fifo = s.fifo ∧ (writeReg r v s).rxBuf = s.rxBuf ∧ (writeReg r v s).aPrev = s.aPrev ∧
      (writeReg r v s).vX = s.vX ∧ (writeReg r v s).pX = s.pX ∧ (writeReg r v s).readData = s.readData ∧
      (writeReg r v s).cfg = s.cfg ∧ (writeReg r v s).pending = s.pending := by
  cases r <;> exact ⟨rfl, rfl, rfl, rfl, rfl, rfl, rfl, rfl⟩

/-- The second of two equal register writes changes nothing (R56). -/
theorem writeReg_writeReg (r : Reg) (v : Word) (s : State) : writeReg r v (writeReg r v s) = writeReg r v s := by
  cases r <;> rfl

/-- The second of two equal W1C writes changes nothing (R56). -/
theorem clearErr_clearErr (v : Word) (s : State) : (s.clearErr v).clearErr v = s.clearErr v := by
  simp only [State.clearErr, BitVec.and_assoc, BitVec.and_self]

/-! ## The bus accesses at a register and at an unmapped word (R53, R54) -/

theorem busRead_regAddr (r : Reg) (s : State) :
    busRead (regAddr r) s = { s with readData := some (readReg r s) } := by
  simp only [busRead, readValue, regAt_regAddr]
  rfl

theorem busRead_of_unmapped {a : WordAddr} (h : regAt a = none) (s : State) :
    busRead a s = { s.raise .busErr with readData := some 0 } := by
  simp only [busRead, readValue, h]
  rfl

theorem busWrite_regAddr_of_ro {r : Reg} (h : regAccess r = .ro) (v : Word) (s : State) :
    busWrite (regAddr r) v s = .next (s.raise .busErr) := by
  simp only [busWrite, regAt_regAddr, h]

theorem busWrite_of_unmapped {a : WordAddr} (h : regAt a = none) (v : Word) (s : State) :
    busWrite a v s = .next (s.raise .busErr) := by
  simp only [busWrite, h]

theorem step_of_read {s : State} {a : WordAddr} {rest : List HostEvent} (hr : s.cfg.inRange = true)
    (hp : s.pending = .read a :: rest) : step s = .next (busRead a { s with pending := rest }) :=
  step_of_pending s hr hp

theorem step_of_write {s : State} {a : WordAddr} {v : Word} {rest : List HostEvent} (hr : s.cfg.inRange = true)
    (hp : s.pending = .write a v :: rest) : step s = busWrite a v { s with pending := rest } :=
  step_of_pending s hr hp

/-- Settles O39: the word is a register's, whose value fits its named bits, or it is unmapped. -/
theorem busReadReturnsRegister : Obligations.BusReadReturnsRegister := by
  intro s a rest hr hp
  have hstep := step_of_read hr hp
  refine ⟨?_, ?_, ?_⟩
  · intro r hoff
    obtain rfl := (eq_regAddr_iff_offset a r).mpr hoff
    obtain ⟨hreserved, -⟩ := reservedBitsReadZeroIgnoreWrites
    exact ⟨hstep.trans (by rw [busRead_regAddr]; rfl), hreserved r s⟩
  · rintro rfl
    exact hstep.trans (by rw [show (0 : WordAddr) = regAddr .cmd from rfl, busRead_regAddr]; rfl)
  · intro hoff
    exact hstep.trans (by rw [busRead_of_unmapped ((regAt_eq_none_iff_offset a).mpr hoff)]; rfl)

/-- The words of the window at which no register lies (R22). -/
theorem unmapped_offsets (a : WordAddr) : (∀ r, 4 * a.toNat ≠ regOffset r) ↔
    4 * a.toNat = 0x58 ∨ 4 * a.toNat = 0x5C ∨ (0x74 ≤ 4 * a.toNat ∧ 4 * a.toNat ≤ 0xFC) := by
  have hlt := a.isLt
  rw [← regAt_eq_none_iff_offset, regAt_eq_none_iff, ← BitVec.toNat_inj, ← BitVec.toNat_inj]
  simp only [BitVec.toNat_ofNat]
  omega

/-- Settles O40: the step is the bus write of its word, taken by access code; the tables are R22's and R54's. -/
theorem busWriteByAccessCode : Obligations.BusWriteByAccessCode := by
  refine ⟨?_, rfl, rfl, rfl, rfl, rfl, by decide, by decide, unmapped_offsets⟩
  intro s a v rest hr hp
  rw [step_of_write hr hp]
  refine ⟨?_, ?_, ?_, ?_, ?_⟩
  · rintro rfl
    exact busWrite_regAddr_cmd v _
  · rintro rfl
    exact busWrite_regAddr_err v _
  · intro r hoff hrw
    obtain rfl := (eq_regAddr_iff_offset a r).mpr hoff
    exact ⟨_, busWrite_regAddr_of_rw hrw v _, readReg_writeReg_same hrw v _,
      fun r' hne => readReg_writeReg_of_ne hne v { s with pending := rest }, writeReg_internals r v _⟩
  · intro r hoff hro
    obtain rfl := (eq_regAddr_iff_offset a r).mpr hoff
    exact busWrite_regAddr_of_ro hro v _
  · intro hoff
    exact busWrite_of_unmapped ((regAt_eq_none_iff_offset a).mpr hoff) v _

/-! ## Repeated accesses (R56) -/

/-- A second read of the same word finds the first one's value and flag. -/
theorem busRead_busRead (a : WordAddr) (s : State) : busRead a (busRead a s) = busRead a s := by
  cases ha : regAt a with
  | none =>
    rw [busRead_of_unmapped ha, busRead_of_unmapped ha]
    exact congrArg (fun t : State => { t with readData := some 0 }) (State.raise_raise s .busErr)
  | some r =>
    obtain rfl := regAt_eq_some ha
    rw [busRead_regAddr, busRead_regAddr]
    rfl

/-- A command that moves on when it runs again from its own next state is not idempotent as a CMD write. -/
theorem command_write_twice_differs {i : Instr} {s t u : State} (ht : exec i s = .next t) (hu : exec i t = .next u)
    (hne : t ≠ u) : ∃ s t u : State, busWrite (regAddr .cmd) (encode i) s = .next t ∧
      busWrite (regAddr .cmd) (encode i) t = .next u ∧ t ≠ u :=
  ⟨s, t, u, (busWrite_cmd_encode i s).trans ht, (busWrite_cmd_encode i t).trans hu, hne⟩

/-- Settles O42: reads and stores repeat without effect; each of the five commands counts, queues or moves on once
more. The TICKs are the two in-tolerance reads that end Turning; the other commands start from reset. -/
theorem accessIdempotency : Obligations.AccessIdempotency := by
  refine ⟨fun s a => busRead_busRead a s, ?_, ?_, ?_⟩
  · intro r s
    rw [busRead_regAddr]
  · rintro r s v (hrw | hw1c)
    · exact ⟨_, busWrite_regAddr_of_rw hrw v s, by rw [busWrite_regAddr_of_rw hrw, writeReg_writeReg]⟩
    · obtain rfl := eq_err_of_w1c hw1c
      exact ⟨_, busWrite_regAddr_err v s, by rw [busWrite_regAddr_err, clearErr_clearErr]⟩
  · rintro i (rfl | rfl | rfl | rfl | rfl)
    · exact command_write_twice_differs (s := State.reset) rfl rfl (ne_of_apply_ne State.fifo (by decide))
    · exact command_write_twice_differs (s := { State.reset with phase := .turning, sensValid := 3 }) rfl rfl
        (ne_of_apply_ne State.phase (by decide))
    · exact command_write_twice_differs (s := State.reset) rfl rfl (ne_of_apply_ne State.rxCnt (by decide))
    · exact command_write_twice_differs (s := State.reset) rfl rfl (ne_of_apply_ne State.acceptCnt (by decide))
    · exact command_write_twice_differs (s := State.reset) rfl rfl (ne_of_apply_ne State.zeroCnt (by decide))

end Sys2Proof.Machine

namespace Sys2Proof.Machine

/-! ## Legal and illegal command words (spec/30_encoding.md R70, R71, R74) -/

/-- The opcodes of the rows of R72. -/
def assignedOpcodes : List Nat := [0x01, 0x02, 0x03, 0x04, 0x10, 0x11, 0x12, 0x20, 0x21]

/-- The words `execute_command` runs: the opcode is in the table and no reserved bit is 1 (R70, R74). -/
def LegalWord (w : Word) : Prop :=
  (opField w).toNat ∈ assignedOpcodes ∧ w &&& reservedMask (opField w) = 0#32

theorem opField_encode_rxpush (b : Byte) : opField (encode (.rxpush b)) = 0x03#8 := by
  revert b
  decide

/-- An opcode in the table selects a command that is encoded with it; any other selects none (R72). -/
theorem opcodeRow_cases (op arg : Byte) :
    (op.toNat ∈ assignedOpcodes ∧ ∃ i, opcodeRow op arg = some i ∧ opField (encode i) = op) ∨
    (op.toNat ∉ assignedOpcodes ∧ opcodeRow op arg = none) := by
  by_cases hop : op.toNat ∈ assignedOpcodes
  · refine Or.inl ⟨hop, ?_⟩
    have hrows : op = 0x01#8 ∨ op = 0x02#8 ∨ op = 0x03#8 ∨ op = 0x04#8 ∨ op = 0x10#8 ∨ op = 0x11#8 ∨ op = 0x12#8 ∨
        op = 0x20#8 ∨ op = 0x21#8 := by
      simpa [assignedOpcodes, ← BitVec.toNat_inj] using hop
    obtain rfl | rfl | rfl | rfl | rfl | rfl | rfl | rfl | rfl := hrows
    case inr.inr.inl => exact ⟨.rxpush arg, rfl, opField_encode_rxpush arg⟩
    all_goals exact ⟨_, rfl, rfl⟩
  · refine Or.inr ⟨hop, ?_⟩
    simp only [assignedOpcodes, List.mem_cons, List.not_mem_nil, or_false, not_or] at hop
    simp [opcodeRow, ← BitVec.toNat_inj, hop]

/-- A legal word decodes to a command of its own opcode; an illegal one is refused (R70, R74). -/
theorem decode_cases (w : Word) :
    (LegalWord w ∧ ∃ i, decode w = .ok i ∧ opField (encode i) = opField w) ∨
    (¬ LegalWord w ∧ ∃ e, decode w = .error e) := by
  obtain ⟨hop, i, hrow, henc⟩ | ⟨hop, hrow⟩ := opcodeRow_cases (opField w) (argField w)
  · by_cases hres : w &&& reservedMask (opField w) = 0#32
    · exact Or.inl ⟨⟨hop, hres⟩, i, by simp only [decode, hrow, hres, if_true], henc⟩
    · exact Or.inr ⟨fun ⟨_, h⟩ => hres h, .reservedBitSet, by simp only [decode, hrow, hres, if_false]⟩
  · exact Or.inr ⟨fun ⟨h, _⟩ => hop h, .unassignedOpcode, by simp only [decode, hrow]⟩

/-- An opcode in one of R74's ranges has no row in R72. -/
theorem not_mem_assignedOpcodes {op : Nat}
    (h : op = 0 ∨ (0x05 ≤ op ∧ op ≤ 0x0F) ∨ (0x13 ≤ op ∧ op ≤ 0x1F) ∨ 0x22 ≤ op) : op ∉ assignedOpcodes := by
  simp only [assignedOpcodes, List.mem_cons, List.not_mem_nil, or_false]
  omega

/-- The reserved mask by the number of the opcode (R71). -/
theorem reservedMask_eq_toNat (op : Byte) :
    reservedMask op = if op.toNat = 0x03 then 0xFFFF0000#32 else 0xFFFFFF00#32 := by
  simp [reservedMask, ← BitVec.toNat_inj]

/-! ## The step that serves a write to CMD (R24, R70, R74) -/

section CommandWrite

variable {s : State} {w : Word} {rest : List HostEvent}

theorem step_of_cmdWrite (hr : s.cfg.inRange = true) (hp : s.pending = .write (regAddr .cmd) w :: rest) :
    step s = executeCommand w { s with pending := rest } := by
  rw [step_of_write hr hp, busWrite_regAddr_cmd]

theorem step_of_decode_ok {i : Instr} (hr : s.cfg.inRange = true)
    (hp : s.pending = .write (regAddr .cmd) w :: rest) (hd : decode w = .ok i) :
    step s = exec i { s with pending := rest } := by
  rw [step_of_cmdWrite hr hp, executeCommand, hd]

/-- A refused word sets bit 1 of ERR; beyond that only its event is taken. -/
theorem step_of_decode_error {e : IllegalCommand} (hr : s.cfg.inRange = true)
    (hp : s.pending = .write (regAddr .cmd) w :: rest) (hd : decode w = .error e) :
    step s = .next { s with err := s.err ||| 0x02#7, pending := rest } := by
  rw [step_of_cmdWrite hr hp, executeCommand, hd]
  rfl

end CommandWrite

/-- Settles O3: neither kind of illegal word is legal, so the decoder refuses it. -/
theorem illegalWordOnlyRaisesFlag : Obligations.IllegalWordOnlyRaisesFlag := by
  intro s w rest hr hp hill
  have hnot : ¬ LegalWord w := by
    rintro ⟨hop, hres⟩
    obtain hrange | hbit := hill
    · exact not_mem_assignedOpcodes hrange hop
    · exact hbit (reservedMask_eq_toNat (opField w) ▸ hres)
  obtain ⟨hlegal, -⟩ | ⟨-, e, hd⟩ := decode_cases w
  · exact absurd hlegal hnot
  · exact ⟨⟨e, hd⟩, step_of_decode_error hr hp hd⟩

/-- Settles O4: the condition of R70 is `LegalWord`, and the decoder tells legal words from illegal ones. -/
theorem commandWriteRunsItsRule : Obligations.CommandWriteRunsItsRule := by
  intro s w rest hr hp
  have hcond : LegalWord w ↔ (opField w).toNat ∈ assignedOpcodes ∧
      w &&& (if (opField w).toNat = 0x03 then 0xFFFF0000#32 else 0xFFFFFF00#32) = 0#32 := by
    rw [← reservedMask_eq_toNat, LegalWord]
  obtain ⟨hlegal, i, hd, henc⟩ | ⟨hnot, e, hd⟩ := decode_cases w
  · exact (if_pos (hcond.mp hlegal)).mpr ⟨i, hd, congrArg BitVec.toNat henc, step_of_decode_ok hr hp hd⟩
  · exact (if_neg (mt hcond.mpr hnot)).mpr (step_of_decode_error hr hp hd)

end Sys2Proof.Machine

namespace Sys2Proof.Machine

/-! ## Acceptance, and the decode step in numbers (spec/40_frame_codec.md R90, R95) -/

theorem accepts_eq_true_iff (v : Frame) : accepts v = true ↔ v.toNat % 0x104C11DB7 = 0 :=
  decide_eq_true_iff

theorem accepts_eq_false_iff (v : Frame) : accepts v = false ↔ v.toNat % 0x104C11DB7 ≠ 0 :=
  decide_eq_false_iff_not

theorem accepts_iff_dvd (v : Frame) : accepts v = true ↔ (0x104C11DB7 : ℤ) ∣ v.toNat := by
  rw [accepts_eq_true_iff]
  omega

/-- A frame's field as a number: FV_FRAME_HI and FV_FRAME_LO are the fields at 32 and at 0 (R27). -/
theorem extractLsb'_eq_ofNat (v : Frame) (i n : Nat) : v.extractLsb' i n = BitVec.ofNat n (v.toNat / 2 ^ i) := by
  rw [BitVec.extractLsb', Nat.shiftRight_eq_div_pow]

theorem frame_toNat (s : State) : s.frame.toNat = 2 ^ 32 * s.frameHi.toNat + s.frameLo.toNat := by
  rw [State.frame, toNat_append_eq_add, Nat.mul_comm]

theorem frame_payloadField (s : State) : s.frame.extractLsb' 32 24 = s.frameHi :=
  BitVec.extractLsb'_append_eq_left

theorem frame_checkField (s : State) : s.frame.extractLsb' 0 32 = s.frameLo :=
  BitVec.extractLsb'_append_eq_right

theorem payloadField_toNat (v : Frame) : (v.extractLsb' 32 24).toNat = v.toNat / 2 ^ 32 := by
  rw [BitVec.extractLsb'_toNat, Nat.shiftRight_eq_div_pow]
  omega

theorem checkField_toNat (v : Frame) : (v.extractLsb' 0 32).toNat = v.toNat % 2 ^ 32 := by
  rw [BitVec.extractLsb'_toNat, Nat.shiftRight_zero]

/-- The decode step of a frame, by the number it stands for (R95). -/
theorem decodeFrame_eq_ite (v : Frame) (src : Bool) (s : State) : decodeFrame v src s =
    if v.toNat % 0x104C11DB7 = 0 then
      { s with
        fvResult := { payload := BitVec.ofNat 24 (v.toNat / 2 ^ 32), valid := true, src := src, decoded := true }
        acceptCnt := s.acceptCnt + 1 }
    else
      { s with
        fvResult := { payload := 0, valid := false, src := src, decoded := true }
        rejectCnt := s.rejectCnt + 1, err := s.err ||| 0x01#7, motYaw := 0, motFwd := 0
        zeroCnt := s.zeroCnt + 1 } := by
  obtain ⟨ha, hd⟩ | ⟨ha, hd⟩ := decodeFrame_cases s v src
  · rw [hd, if_pos ((accepts_eq_true_iff v).mp ha), extractLsb'_eq_ofNat]
  · rw [hd, if_neg ((accepts_eq_false_iff v).mp ha)]

/-- The decode step of a frame that is no multiple of `D` (R96). -/
theorem decodeFrame_of_not_multiple {v : Frame} (h : v.toNat % 0x104C11DB7 ≠ 0) (src : Bool) (s : State) :
    decodeFrame v src s =
      { s with
        fvResult := { payload := 0, valid := false, src := src, decoded := true }
        rejectCnt := s.rejectCnt + 1, err := s.err ||| 0x01#7, motYaw := 0, motFwd := 0
        zeroCnt := s.zeroCnt + 1 } := by
  rw [decodeFrame_eq_ite, if_neg h]

/-- SRC is copied into FV_RESULT and decides nothing (R95). -/
theorem decodeFrame_src (v : Frame) (src src' : Bool) (s : State) : decodeFrame v src s =
    { decodeFrame v src' s with fvResult := { (decodeFrame v src' s).fvResult with src := src } } := by
  rw [decodeFrame_eq_ite, decodeFrame_eq_ite v src']
  split <;> rfl

/-- FV_RESULT shows a payload as valid only when the frame is accepted and carries it (R95). -/
theorem decodeFrame_delivers {v : Frame} {src : Bool} {s : State} (h : (decodeFrame v src s).fvResult.valid = true) :
    accepts v = true ∧ v.extractLsb' 32 24 = (decodeFrame v src s).fvResult.payload := by
  rw [decodeFrame_fvResult] at h ⊢
  exact ⟨h, (if_pos h).symm⟩

/-! ## The four commands of the frame validator (R92, R94, R100, R101) -/

/-- The state after ENC (R92). -/
def State.encoded (s : State) : State :=
  { s with
    frameHi := (encodeFrame s.fvPayload).extractLsb' 32 24
    frameLo := (encodeFrame s.fvPayload).extractLsb' 0 32
    lastEncOvf := checkOverflows (checkValue s.fvPayload)
    err := if checkOverflows (checkValue s.fvPayload) then s.err ||| ErrFlag.encOvf.mask else s.err }

/-- The state in which a received frame stands in the frame registers and the assembler is empty (R100). -/
def State.loaded (v : Frame) (s : State) : State :=
  { s with frameHi := v.extractLsb' 32 24, frameLo := v.extractLsb' 0 32, rxBuf := 0, rxCnt := 0 }

theorem exec_enc (s : State) : exec .enc s = .next s.encoded := rfl

theorem exec_dec (s : State) : exec .dec s = .next (decodeFrame s.frame false s) := rfl

theorem exec_rxpush_held {s : State} (b : Byte) (h : s.rxCnt.toNat < 6) :
    exec (.rxpush b) s = .next { s with rxBuf := appendByte s.rxBuf b, rxCnt := s.rxCnt + 1 } :=
  if_pos h

theorem exec_rxpush_seventh {s : State} (b : Byte) (h : ¬ s.rxCnt.toNat < 6) :
    exec (.rxpush b) s = .next (decodeFrame (s.rxBuf ++ b) true (s.loaded (s.rxBuf ++ b))) :=
  if_neg h

theorem exec_rxflush (s : State) : exec .rxflush s = .next { s with rxBuf := 0, rxCnt := 0 } := rfl

theorem encoded_frame (s : State) : s.encoded.frame = encodeFrame s.fvPayload :=
  writeFrame_frame (encodeFrame s.fvPayload) s

theorem loaded_frame (v : Frame) (s : State) : (s.loaded v).frame = v :=
  writeFrame_frame v s

theorem not_lt_six_of_rxCnt {s : State} (h : s.rxCnt = 6#3) : ¬ s.rxCnt.toNat < 6 := by
  rw [h]
  decide

/-! ## The literal encoder (R91, R92) -/

section Encoder

variable (p : Payload)

theorem checkValue_eq : checkValue p = 0x104C11DB7 - 2 ^ 32 * p.toNat % 0x104C11DB7 := rfl

theorem encodeValue_eq : encodeValue p = 2 ^ 32 * p.toNat ||| checkValue p := rfl

theorem encodeValue_lt : encodeValue p < 2 ^ 56 := by
  have hp := p.isLt
  rw [encodeValue_eq, checkValue_eq]
  exact Nat.or_lt_two_pow (by omega) (by omega)

theorem encodeFrame_toNat : (encodeFrame p).toNat = encodeValue p := by
  rw [encodeFrame, BitVec.toNat_ofNat, Nat.mod_eq_of_lt (encodeValue_lt p)]

/-- The payload field takes bit 32 of the check value (R91). -/
theorem encodeValue_div : encodeValue p / 2 ^ 32 = p.toNat ||| checkValue p / 2 ^ 32 := by
  rw [encodeValue_eq, Nat.or_div_two_pow, Nat.mul_div_cancel_left _ (Nat.two_pow_pos 32)]

theorem encodeValue_mod : encodeValue p % 2 ^ 32 = checkValue p % 2 ^ 32 := by
  rw [encodeValue_eq, Nat.or_mod_two_pow, Nat.mul_mod_right, Nat.zero_or]

/-- Without overflow the OR is a sum (R91). -/
theorem encodeValue_of_fits {p : Payload} (h : checkValue p ≤ 0xFFFFFFFF) :
    encodeValue p = 2 ^ 32 * p.toNat + checkValue p := by
  rw [encodeValue_eq, Nat.two_pow_add_eq_or_of_lt (by omega)]

/-- The check value completes `p * 2^32` to a multiple of `D` (R91). -/
theorem shifted_add_checkValue_mod : (2 ^ 32 * p.toNat + checkValue p) % 0x104C11DB7 = 0 := by
  rw [checkValue_eq]
  omega

end Encoder

/-- Settles O10: the OR is taken apart at bit 32, and the check value completes a multiple of `D`. -/
theorem encodeFormula : Obligations.EncodeFormula := by
  intro p x r c v
  have hr : r < 0x104C11DB7 := Nat.mod_lt _ (by decide)
  have hc : c = 0x104C11DB7 - r := rfl
  exact ⟨rfl, rfl, by omega, by omega, by omega, by omega, encodeValue_lt p, encodeFrame_toNat p, encodeValue_div p,
    encodeValue_mod p, fun hfits => ⟨encodeValue_of_fits hfits, shifted_add_checkValue_mod p⟩⟩

/-- ENC in numbers (R91, R92). -/
theorem encoded_eq (s : State) : s.encoded =
    { s with
      frameHi := BitVec.ofNat 24 (encodeValue s.fvPayload / 2 ^ 32)
      frameLo := BitVec.ofNat 32 (encodeValue s.fvPayload)
      lastEncOvf := decide (0xFFFFFFFF < checkValue s.fvPayload)
      err := if 0xFFFFFFFF < checkValue s.fvPayload then s.err ||| 0x10#7 else s.err } := by
  rw [State.encoded, extractLsb'_eq_ofNat, extractLsb'_eq_ofNat, encodeFrame_toNat, pow_zero, Nat.div_one,
    checkOverflows]
  simp only [decide_eq_true_eq]
  rfl

/-- What ENC leaves for a payload whose frame and overflow are known (R92). -/
theorem exec_enc_of_frame {s : State} {p : Payload} {v : Frame} {ovf : Bool} (hp : s.fvPayload = p)
    (hv : encodeFrame p = v) (hovf : checkOverflows (checkValue p) = ovf) :
    ∃ t, exec .enc s = .next t ∧ t.lastEncOvf = ovf ∧ t.frameHi = v.extractLsb' 32 24 ∧
      t.frameLo = v.extractLsb' 0 32 ∧ t.frame = v := by
  subst hp hv hovf
  exact ⟨_, exec_enc s, rfl, rfl, rfl, encoded_frame s⟩

/-- Settles O9: the corner cases evaluate the encoder on their one payload. -/
theorem encEmitsLiteralFrame : Obligations.EncEmitsLiteralFrame := by
  refine ⟨rfl, fun s => ?_, fun s hp => ?_, fun s hp => ?_, fun s hp => ?_⟩
  · rw [exec_enc, encoded_eq]
    rfl
  · obtain ⟨t, ht, hovf, hhi, hlo, hframe⟩ :=
      exec_enc_of_frame (v := 0x0000000104C11DB7#56) (ovf := true) hp (by decide) (by decide)
    refine ⟨t, _, ht, hovf, hhi, hlo, exec_dec t, ?_⟩
    rw [hframe, decodeFrame_fvResult]
    decide
  · obtain ⟨t, ht, hovf, hhi, hlo, -⟩ :=
      exec_enc_of_frame (v := 0x0000000104C11DB7#56) (ovf := false) hp (by decide) (by decide)
    exact ⟨t, ht, hovf, hhi, hlo⟩
  · obtain ⟨t, ht, hovf, hhi, hlo, -⟩ :=
      exec_enc_of_frame (v := 0xFFFFFF9B9FF795#56) (ovf := false) hp (by decide) (by decide)
    exact ⟨t, ht, hovf, hhi, hlo⟩

/-! ## The decode step: DEC and the seventh RXPUSH (R94, R95) -/

/-- What DEC shows for a frame given by its two registers (R94). -/
theorem exec_dec_fvResult {s : State} {hi : BitVec 24} {lo : BitVec 32} (hhi : s.frameHi = hi) (hlo : s.frameLo = lo) :
    ∃ t, exec .dec s = .next t ∧ t.fvResult =
      { payload := if accepts (hi ++ lo) then (hi ++ lo).extractLsb' 32 24 else 0, valid := accepts (hi ++ lo)
        src := false, decoded := true } := by
  subst hhi hlo
  exact ⟨_, exec_dec s, decodeFrame_fvResult _ _ _⟩

/-- Settles O12: the corner cases evaluate the decode step on their one frame. -/
theorem decVerifiesFrame : Obligations.DecVerifiesFrame := by
  refine ⟨rfl, fun s => ?_, fun s hhi hlo => ?_, fun s hhi hlo => ?_, rfl, fun s hhi hlo => ?_⟩
  · intro v
    rw [exec_dec, decodeFrame_eq_ite, frame_toNat]
  all_goals
    obtain ⟨t, ht, hres⟩ := exec_dec_fvResult hhi hlo
    refine ⟨t, ht, ?_⟩
  · rw [hres]
    decide
  · rw [hres]
    decide
  · rw [readReg, hres]
    decide

/-- The FV_RESULT word of a decode step (R95). -/
theorem decodeFrame_resultWord (v : Frame) (src : Bool) (s : State) :
    (readReg .fvResult (decodeFrame v src s)).toNat =
      2 ^ 26 + 2 ^ 25 * src.toNat + if v.toNat % 0x104C11DB7 = 0 then 2 ^ 24 + v.toNat / 2 ^ 32 else 0 := by
  rw [readReg, fvResultWord_toNat, decodeFrame_fvResult]
  by_cases hv : v.toNat % 0x104C11DB7 = 0
  · simp only [(accepts_eq_true_iff v).mpr hv, if_pos hv, if_true, payloadField_toNat, Bool.toNat_true]
    omega
  · simp only [(accepts_eq_false_iff v).mpr hv, if_neg hv, Bool.false_eq_true, if_false, Bool.toNat_true,
      Bool.toNat_false, show (0 : Payload).toNat = 0 from rfl]
    omega

/-- Settles O13: both commands run `decodeFrame`, in which SRC decides nothing. -/
theorem decodeStepIsShared : Obligations.DecodeStepIsShared := by
  refine ⟨?_, exec_dec, ?_⟩
  · intro s v src t
    have hword : (readReg .fvResult t).toNat = _ := decodeFrame_resultWord v src s
    have ht : t = _ := decodeFrame_eq_ite v src s
    by_cases hv : v.toNat % 0x104C11DB7 = 0
    · rw [if_pos hv] at ht hword ⊢
      exact ⟨by rw [ht], by omega⟩
    · rw [if_neg hv] at ht hword ⊢
      exact ⟨by rw [ht], hword⟩
  · intro s b hcnt loaded
    have hpush := exec_rxpush_seventh b (not_lt_six_of_rxCnt hcnt)
    have hdec : exec .dec loaded = .next (decodeFrame (s.rxBuf ++ b) false loaded) :=
      (exec_dec loaded).trans (by rw [show loaded.frame = s.rxBuf ++ b from loaded_frame _ s])
    exact ⟨hpush, _, _, hpush, hdec, by rw [decodeFrame_fvResult], decodeFrame_src _ true false _⟩

/-! ## What the motion controller sees of a decode step (R96) -/

/-- `s` with ERR, the frame validator's elements, the motor outputs and the zero events of `c`: everything that a decode
step writes. -/
def State.withDecodeOf (s c : State) : State :=
  { s with
    err := c.err, frameHi := c.frameHi, frameLo := c.frameLo, fvResult := c.fvResult, rxCnt := c.rxCnt, rxBuf := c.rxBuf
    acceptCnt := c.acceptCnt, rejectCnt := c.rejectCnt, motYaw := c.motYaw, motFwd := c.motFwd, zeroCnt := c.zeroCnt }

/-- Two states show the same control action: the phase and both motor codes. -/
def SameAction (s t : State) : Prop := t.phase = s.phase ∧ t.motYaw = s.motYaw ∧ t.motFwd = s.motFwd

theorem decodeFrame_withDecodeOf (v : Frame) (src : Bool) (s : State) :
    decodeFrame v src s = s.withDecodeOf (decodeFrame v src s) := by
  obtain ⟨-, hd⟩ | ⟨-, hd⟩ := decodeFrame_cases s v src <;> rw [hd] <;> rfl

theorem decodeFrame_loaded_withDecodeOf (v : Frame) (src : Bool) (s : State) :
    decodeFrame v src (s.loaded v) = s.withDecodeOf (decodeFrame v src (s.loaded v)) := by
  obtain ⟨-, hd⟩ | ⟨-, hd⟩ := decodeFrame_cases (s.loaded v) v src <;> rw [hd] <;> rfl

/-- A Turning step that stays in TURNING writes the motors from the task and the sensors alone (R142). -/
theorem turningStep_withDecodeOf (c : State) {s : State} (hkeep : (turningStep s).phase ≠ .advancing) :
    SameAction (turningStep s) (turningStep (s.withDecodeOf c)) := by
  have hcount : turnCount (s.withDecodeOf c) = turnCount s := rfl
  obtain ⟨-, hs⟩ | ⟨hne, hs⟩ := turningStep_cases s
  · exact absurd (by rw [hs]) hkeep
  · obtain ⟨heq, -⟩ | ⟨-, ht⟩ := turningStep_cases (s.withDecodeOf c)
    · exact absurd (hcount.symm.trans heq) hne
    · rw [hs, ht]
      exact ⟨rfl, rfl, rfl⟩

/-- The dead-reckoning step reads nothing that a decode step writes (R124). -/
theorem estStep_withDecodeOf (ax ay az : Int) (s c : State) : estStep ax ay az (s.withDecodeOf c) =
    (estStep ax ay az s).withDecodeOf (estStep ax ay az (s.withDecodeOf c)) := by
  unfold estStep State.withDecodeOf
  rfl

/-- An Advancing step that does not end the task writes the motors from the task, the estimate and the sensors alone
(R145). -/
theorem advanceControl_withDecodeOf (c : State) {s : State} (hkeep : (advanceControl s).phase ≠ .idle) :
    SameAction (advanceControl s) (advanceControl (s.withDecodeOf c)) := by
  have hcount : advanceCount (s.withDecodeOf c) = advanceCount s := rfl
  obtain ⟨-, hs⟩ | ⟨hne, hs⟩ := advanceControl_cases s
  · exact absurd (by rw [hs]) hkeep
  · obtain ⟨heq, -⟩ | ⟨-, ht⟩ := advanceControl_cases (s.withDecodeOf c)
    · exact absurd (hcount.symm.trans heq) hne
    · rw [hs, ht]
      exact ⟨rfl, rfl, rfl⟩

theorem advancingStep_withDecodeOf (c : State) {s : State} (hkeep : (advancingStep s).phase ≠ .idle) :
    SameAction (advancingStep s) (advancingStep (s.withDecodeOf c)) := by
  have ht : advancingStep (s.withDecodeOf c) = advanceControl (estStep (sext s.sensAx) (sext s.sensAy) (sext s.sensAz)
    (s.withDecodeOf c)) := rfl
  rw [ht, estStep_withDecodeOf]
  exact advanceControl_withDecodeOf _ hkeep

theorem sensorHold_withDecodeOf (s c : State) : SameAction (sensorHold s) (sensorHold (s.withDecodeOf c)) :=
  ⟨rfl, rfl, rfl⟩

theorem runPhase_of_turning {s : State} (hp : s.phase = .turning) :
    runPhase s = if s.headOk then turningStep s else sensorHold s := by
  rw [runPhase, hp]

theorem runPhase_of_advancing {s : State} (hp : s.phase = .advancing) :
    runPhase s = if s.headOk && s.accOk then advancingStep s else sensorHold s := by
  rw [runPhase, hp]

/-- The phase part of a TICK that keeps a running phase takes the same control action after a decode step (R96). -/
theorem runPhase_withDecodeOf (c : State) {s : State} (hrun : s.phase ≠ .idle)
    (hkeep : (runPhase s).phase = s.phase) : SameAction (runPhase s) (runPhase (s.withDecodeOf c)) := by
  cases hp : s.phase with
  | idle => exact absurd hp hrun
  | turning =>
    rw [runPhase_of_turning hp] at hkeep ⊢
    rw [runPhase_of_turning (s := s.withDecodeOf c) hp, show (s.withDecodeOf c).headOk = s.headOk from rfl]
    by_cases hok : s.headOk = true
    · rw [if_pos hok] at hkeep
      rw [if_pos hok, if_pos hok]
      exact turningStep_withDecodeOf c (by rw [hkeep, hp]; decide)
    · rw [if_neg hok, if_neg hok]
      exact sensorHold_withDecodeOf s c
  | advancing =>
    rw [runPhase_of_advancing hp] at hkeep ⊢
    rw [runPhase_of_advancing (s := s.withDecodeOf c) hp, show (s.withDecodeOf c).headOk = s.headOk from rfl,
      show (s.withDecodeOf c).accOk = s.accOk from rfl]
    by_cases hok : (s.headOk && s.accOk) = true
    · rw [if_pos hok] at hkeep
      rw [if_pos hok, if_pos hok]
      exact advancingStep_withDecodeOf c (by rw [hkeep, hp]; decide)
    · rw [if_neg hok, if_neg hok]
      exact sensorHold_withDecodeOf s c

theorem exec_tick_of_running {s : State} (h : s.phase ≠ .idle) : exec .tick s = .next (runPhase s) := by
  obtain ⟨hp, -⟩ | ⟨_, _, hp, -⟩ | ⟨-, ht⟩ | ⟨-, ht⟩ := execTick_cases s
  · exact absurd hp h
  · exact absurd hp h
  · exact ht
  · exact ht

/-- A decode step between two TICKs does not change what the second one does, when it keeps the running phase (R96). -/
theorem exec_tick_withDecodeOf (c : State) {s u : State} (hrun : s.phase ≠ .idle) (hu : exec .tick s = .next u)
    (hkeep : u.phase = s.phase) : ∃ w, exec .tick (s.withDecodeOf c) = .next w ∧ SameAction u w := by
  cases (exec_tick_of_running hrun).symm.trans hu
  exact ⟨_, exec_tick_of_running (s := s.withDecodeOf c) hrun, runPhase_withDecodeOf c hrun hkeep⟩

/-- DEC decodes in the state itself, the seventh RXPUSH in the state with its frame loaded (R94, R100). -/
theorem exec_decodes {s : State} {i : Instr} {v : Frame}
    (hi : (i = .dec ∧ v = s.frame) ∨ ∃ b, i = .rxpush b ∧ s.rxCnt = 6#3 ∧ v = s.rxBuf ++ b) :
    ∃ src c, exec i s = .next (decodeFrame v src c) ∧ (c = s ∨ c = s.loaded v) := by
  obtain ⟨rfl, rfl⟩ | ⟨b, rfl, hcnt, rfl⟩ := hi
  · exact ⟨false, s, exec_dec s, Or.inl rfl⟩
  · exact ⟨true, _, exec_rxpush_seventh b (not_lt_six_of_rxCnt hcnt), Or.inr rfl⟩

/-- Settles O14: the decode step writes nothing that the motion controller reads. -/
theorem rejectionZeroesMotorsOnce : Obligations.RejectionZeroesMotorsOnce := by
  intro s i v hi hv
  obtain ⟨src, c, hexec, hc⟩ := exec_decodes hi
  have ht := decodeFrame_of_not_multiple hv src c
  have htick : ∃ d, decodeFrame v src c = s.withDecodeOf d := by
    obtain rfl | rfl := hc
    · exact ⟨_, decodeFrame_withDecodeOf v src _⟩
    · exact ⟨_, decodeFrame_loaded_withDecodeOf v src s⟩
  obtain ⟨d, hd⟩ := htick
  refine ⟨_, hexec.trans (congrArg _ ht), rfl, rfl, ?_⟩
  have hnext : ∀ u, s.phase ≠ .idle → exec .tick s = .next u → u.phase = s.phase →
      ∃ w, exec .tick (decodeFrame v src c) = .next w ∧ SameAction u w := by
    rw [hd]
    exact fun u => exec_tick_withDecodeOf d
  rw [ht] at hnext
  obtain rfl | rfl := hc <;>
    exact ⟨rfl, rfl, rfl, rfl, rfl, rfl, rfl, rfl, rfl, rfl, rfl, rfl, rfl, rfl, rfl, rfl, hnext⟩

/-! ## The payloads that an accepted frame carries (R97, R98) -/

/-- Some accepted frame carries the payload (R98). -/
abbrev Deliverable (p : Payload) : Prop := ∃ v : Frame, accepts v = true ∧ v.extractLsb' 32 24 = p

/-- `p * 2^32` is a multiple of `D` only for payload 0, because `D` is odd and exceeds every payload. -/
theorem shifted_mod_eq_zero_iff (p : Payload) : 2 ^ 32 * p.toNat % 0x104C11DB7 = 0 ↔ p = 0 := by
  constructor
  · intro h
    have hdvd : 0x104C11DB7 ∣ p.toNat :=
      Nat.Coprime.dvd_of_dvd_mul_left (by norm_num) (Nat.dvd_of_mod_eq_zero h)
    have hzero : p.toNat = 0 := Nat.eq_zero_of_dvd_of_lt hdvd (p.isLt.trans (by norm_num))
    exact BitVec.eq_of_toNat_eq hzero
  · rintro rfl
    rfl

/-- The check field of an accepted frame completes `p * 2^32` to a multiple of `D` (R90). -/
theorem shifted_add_checkField_mod {v : Frame} {p : Payload} (ha : accepts v = true)
    (hp : v.extractLsb' 32 24 = p) : (2 ^ 32 * p.toNat + (v.extractLsb' 0 32).toNat) % 0x104C11DB7 = 0 := by
  rw [← hp, payloadField_toNat, checkField_toNat, Nat.div_add_mod]
  exact (accepts_eq_true_iff v).mp ha

/-- The check field of an accepted frame follows from its payload (R98). -/
theorem checkField_of_accepts {v : Frame} {p : Payload} (ha : accepts v = true) (hp : v.extractLsb' 32 24 = p) :
    (v.extractLsb' 0 32).toNat = (0x104C11DB7 - 2 ^ 32 * p.toNat % 0x104C11DB7) % 0x104C11DB7 := by
  have hlo := (v.extractLsb' 0 32).isLt
  have hmod := shifted_add_checkField_mod ha hp
  rw [← Nat.mod_add_mod] at hmod
  have hr : 2 ^ 32 * p.toNat % 0x104C11DB7 < 0x104C11DB7 := Nat.mod_lt _ (by decide)
  generalize 2 ^ 32 * p.toNat % 0x104C11DB7 = r at hmod hr ⊢
  omega

/-- An accepted frame is determined by its payload (R98). -/
theorem accepted_frame_unique {v w : Frame} (hv : accepts v = true) (hw : accepts w = true)
    (h : v.extractLsb' 32 24 = w.extractLsb' 32 24) : v = w := by
  have hlo := (checkField_of_accepts hv h).trans (checkField_of_accepts hw rfl).symm
  have hhi := congrArg BitVec.toNat h
  rw [payloadField_toNat, payloadField_toNat] at hhi
  rw [checkField_toNat, checkField_toNat] at hlo
  exact BitVec.eq_of_toNat_eq (by omega)

/-- A check field of 32 bits that completes `p * 2^32` to a multiple of `D` gives an accepted frame (R98). -/
theorem deliverable_of_check {p : Payload} {c : Nat} (hc : c < 2 ^ 32)
    (h : (2 ^ 32 * p.toNat + c) % 0x104C11DB7 = 0) : Deliverable p := by
  have hp := p.isLt
  have hv : (BitVec.ofNat 56 (2 ^ 32 * p.toNat + c)).toNat = 2 ^ 32 * p.toNat + c := by
    rw [BitVec.toNat_ofNat, Nat.mod_eq_of_lt (by omega)]
  refine ⟨BitVec.ofNat 56 (2 ^ 32 * p.toNat + c), ?_, BitVec.eq_of_toNat_eq ?_⟩
  · rw [accepts_eq_true_iff, hv, h]
  · rw [payloadField_toNat, hv]
    omega

/-- Which payloads have an accepted frame (R98). -/
theorem deliverable_iff (p : Payload) :
    Deliverable p ↔
      (2 ^ 32 * p.toNat % 0x104C11DB7 = 0 ∨ 0x04C11DB7 < 2 ^ 32 * p.toNat % 0x104C11DB7) := by
  constructor
  · rintro ⟨v, ha, hp⟩
    have hlo := (v.extractLsb' 0 32).isLt
    have hmod := shifted_add_checkField_mod ha hp
    rw [← Nat.mod_add_mod] at hmod
    generalize 2 ^ 32 * p.toNat % 0x104C11DB7 = r at hmod ⊢
    omega
  · rintro (hzero | hlarge)
    · exact deliverable_of_check (c := 0) (by decide) hzero
    · exact deliverable_of_check (by rw [checkValue_eq]; omega) (shifted_add_checkValue_mod p)

/-- The frame of the value `k * D` (R90). -/
def multipleFrame (k : Nat) : Frame := BitVec.ofNat 56 (0x104C11DB7 * k)

theorem multipleFrame_toNat {k : Nat} (hk : k < 16471316) : (multipleFrame k).toNat = 0x104C11DB7 * k := by
  have hlt : 0x104C11DB7 * k < 2 ^ 56 := by omega
  rw [multipleFrame, BitVec.toNat_ofNat, Nat.mod_eq_of_lt hlt]

/-- The accepted frames are the multiples of `D` below 2^56 (R90). -/
theorem setOf_accepts_eq_image : {v : Frame | accepts v = true} = multipleFrame '' Set.Iio 16471316 := by
  ext v
  rw [Set.mem_ofPred_eq, accepts_eq_true_iff, Set.mem_image]
  constructor
  · intro h
    have hv := v.isLt
    have hk : v.toNat / 0x104C11DB7 < 16471316 := by omega
    refine ⟨v.toNat / 0x104C11DB7, Set.mem_Iio.mpr hk, BitVec.eq_of_toNat_eq ?_⟩
    rw [multipleFrame_toNat hk]
    omega
  · rintro ⟨k, hk, rfl⟩
    rw [multipleFrame_toNat (Set.mem_Iio.mp hk), Nat.mul_mod_right]

theorem multipleFrame_injOn : Set.InjOn multipleFrame (Set.Iio 16471316) := by
  intro j hj k hk h
  have hmul := congrArg BitVec.toNat h
  rw [multipleFrame_toNat (Set.mem_Iio.mp hj), multipleFrame_toNat (Set.mem_Iio.mp hk)] at hmul
  omega

theorem ncard_accepted : {v : Frame | accepts v = true}.ncard = 16471316 := by
  rw [setOf_accepts_eq_image, multipleFrame_injOn.ncard_image, Set.ncard_Iio_nat]

theorem card_payload : Nat.card Payload = 16777216 :=
  (Nat.card_congr BitVec.equivFin.toEquiv).trans (Nat.card_fin _)

/-- There are as many deliverable payloads as accepted frames (R98). -/
theorem ncard_deliverable : {p : Payload | Deliverable p}.ncard = 16471316 := by
  have himage : {p : Payload | Deliverable p} =
      (fun v : Frame => v.extractLsb' 32 24) '' {v : Frame | accepts v = true} := rfl
  have hinj : Set.InjOn (fun v : Frame => v.extractLsb' 32 24) {v : Frame | accepts v = true} :=
    fun v hv w hw => accepted_frame_unique hv hw
  rw [himage, hinj.ncard_image, ncard_accepted]

theorem ncard_undeliverable : {p : Payload | ¬ Deliverable p}.ncard = 305900 := by
  have hcompl : {p : Payload | ¬ Deliverable p} = {p : Payload | Deliverable p}ᶜ := rfl
  rw [hcompl, Set.ncard_compl, card_payload, ncard_deliverable]

/-- The check value fits 32 bits exactly for the deliverable payloads other than 0 (R97, R98). -/
theorem fits_iff (p : Payload) :
    0x104C11DB7 - 2 ^ 32 * p.toNat % 0x104C11DB7 ≤ 0xFFFFFFFF ↔ Deliverable p ∧ p ≠ 0 := by
  have hz := shifted_mod_eq_zero_iff p
  rw [deliverable_iff, ne_eq, ← hz]
  omega

theorem ncard_fits :
    {p : Payload | 0x104C11DB7 - 2 ^ 32 * p.toNat % 0x104C11DB7 ≤ 0xFFFFFFFF}.ncard = 16471315 := by
  have hset : {p : Payload | 0x104C11DB7 - 2 ^ 32 * p.toNat % 0x104C11DB7 ≤ 0xFFFFFFFF} =
      {p : Payload | Deliverable p} \ {0} := Set.ext fits_iff
  have hzero : (0 : Payload) ∈ {p : Payload | Deliverable p} := (deliverable_iff 0).mpr (Or.inl rfl)
  rw [hset, Set.ncard_sdiff_singleton_of_mem hzero, ncard_deliverable]

theorem ncard_overflows :
    {p : Payload | 0xFFFFFFFF < 0x104C11DB7 - 2 ^ 32 * p.toNat % 0x104C11DB7}.ncard = 305901 := by
  have hcompl : {p : Payload | 0xFFFFFFFF < 0x104C11DB7 - 2 ^ 32 * p.toNat % 0x104C11DB7} =
      {p : Payload | 0x104C11DB7 - 2 ^ 32 * p.toNat % 0x104C11DB7 ≤ 0xFFFFFFFF}ᶜ := Set.ext fun _ => Nat.not_le.symm
  rw [hcompl, Set.ncard_compl, card_payload, ncard_fits]

/-- The encoder emits an accepted frame of its payload exactly when the check value fits 32 bits (R97). -/
theorem encodeFrame_carries_iff (p : Payload) :
    (accepts (encodeFrame p) = true ∧ (encodeFrame p).extractLsb' 32 24 = p) ↔ checkValue p ≤ 0xFFFFFFFF := by
  constructor
  · rintro ⟨ha, hp⟩
    refine (fits_iff p).mpr ⟨⟨_, ha, hp⟩, ?_⟩
    rintro rfl
    exact absurd hp (by decide)
  · intro hfits
    have hv := (encodeFrame_toNat p).trans (encodeValue_of_fits hfits)
    constructor
    · rw [accepts_eq_true_iff, hv, shifted_add_checkValue_mod]
    · apply BitVec.eq_of_toNat_eq
      rw [payloadField_toNat, hv]
      omega

/-- Settles O15: DEC after ENC decodes the encoder's frame, and the counts are those of the deliverable payloads. -/
theorem roundTripExactlyWithoutOverflow : Obligations.RoundTripExactlyWithoutOverflow := by
  refine ⟨fun s => ⟨_, _, exec_enc s, exec_dec _, ?_⟩, ncard_fits, ncard_overflows⟩
  rw [encoded_frame, decodeFrame_fvResult]
  refine Iff.trans (and_congr_right fun ha => ?_) (encodeFrame_carries_iff s.fvPayload)
  rw [if_pos ha]

/-- A decode step never shows an undeliverable payload as valid (R98). -/
theorem decodeFrame_not_delivers {p : Payload} (h : ¬ Deliverable p) (v : Frame) (src : Bool) (s : State) :
    ¬ ((decodeFrame v src s).fvResult.valid = true ∧ (decodeFrame v src s).fvResult.payload = p) := by
  rintro ⟨hvalid, hp⟩
  obtain ⟨ha, hcarried⟩ := decodeFrame_delivers hvalid
  exact h ⟨v, ha, hcarried.trans hp⟩

/-- The payloads before the first and after the last undeliverable one, by their residues (R98). -/
theorem residues_at_ends :
    (∀ n < 0x36, 2 ^ 32 * n % 0x104C11DB7 = 0 ∨ 0x04C11DB7 < 2 ^ 32 * n % 0x104C11DB7) ∧
    (∀ n < 0x21, 0x04C11DB7 < 2 ^ 32 * (0xFFFFDF + n) % 0x104C11DB7) := by
  decide

theorem undeliverable_bounds {p : Payload} (h : ¬ Deliverable p) : 0x36 ≤ p.toNat ∧ p.toNat ≤ 0xFFFFDE := by
  obtain ⟨hfirst, hlast⟩ := residues_at_ends
  have hp := p.isLt
  rw [deliverable_iff] at h
  constructor
  · by_contra hlt
    exact h (hfirst p.toNat (by omega))
  · by_contra hgt
    have hr := hlast (p.toNat - 0xFFFFDF) (by omega)
    rw [Nat.add_sub_cancel' (by omega)] at hr
    exact h (Or.inr hr)

/-- Settles O16: a payload's only candidate check field must fit 32 bits, and the accepted frames are counted as the
multiples of `D`. -/
theorem deliverablePayloads : Obligations.DeliverablePayloads := by
  refine ⟨fun v w hv hw => accepted_frame_unique hv hw,
    fun p => ⟨deliverable_iff p, fun v ha hp => checkField_of_accepts ha hp⟩, rfl, ncard_undeliverable,
    ncard_accepted, fun p => undeliverable_bounds, mt (deliverable_iff _).mp (by decide),
    mt (deliverable_iff _).mp (by decide), ?_⟩
  intro s p hp
  exact ⟨⟨_, exec_dec s, decodeFrame_not_delivers hp _ _ _⟩,
    fun b hcnt => ⟨_, exec_rxpush_seventh b (not_lt_six_of_rxCnt hcnt), decodeFrame_not_delivers hp _ _ _⟩⟩

/-! ## One-bit and two-bit changes of an accepted frame (R99) -/

/-- Setting a clear bit adds its weight. -/
theorem xor_twoPow_toNat_of_clear {v : Frame} {k : Nat} (hk : k < 56) (h : v.getLsbD k = false) :
    (v ^^^ BitVec.twoPow 56 k).toNat = v.toNat + 2 ^ k := by
  have hand : v &&& BitVec.twoPow 56 k = 0#56 := by
    rw [BitVec.and_twoPow, h]
    rfl
  have hxor : v ^^^ BitVec.twoPow 56 k = v + BitVec.twoPow 56 k := by
    rw [BitVec.add_eq_or_of_and_eq_zero _ _ hand]
    ext i hi
    have hbit := congrArg (BitVec.getLsbD · i) hand
    simp only [BitVec.getLsbD_and, BitVec.getLsbD_zero] at hbit
    simp only [BitVec.getElem_xor, BitVec.getElem_or]
    grind
  rw [hxor, BitVec.toNat_add_of_and_eq_zero hand, BitVec.toNat_twoPow_of_lt hk]

/-- Changing bit `k` adds or subtracts 2^k (R99). -/
theorem xor_twoPow_toNat (v : Frame) {k : Nat} (hk : k < 56) :
    ∃ e : ℤˣ, ((v ^^^ BitVec.twoPow 56 k).toNat : ℤ) = v.toNat + e * 2 ^ k := by
  cases h : v.getLsbD k with
  | false =>
    refine ⟨1, ?_⟩
    rw [xor_twoPow_toNat_of_clear hk h]
    push_cast
    ring
  | true =>
    have hclear : (v ^^^ BitVec.twoPow 56 k).getLsbD k = false := by
      rw [BitVec.getLsbD_xor, h, BitVec.getLsbD_twoPow]
      simp [hk]
    have hback := xor_twoPow_toNat_of_clear hk hclear
    rw [BitVec.xor_assoc, BitVec.xor_self, BitVec.xor_zero] at hback
    refine ⟨-1, ?_⟩
    rw [hback]
    push_cast
    ring

/-- `D` is odd, so a factor that is a power of two can be dropped. -/
theorem dvd_of_dvd_two_pow_mul {a : ℤ} (k : Nat) (h : (0x104C11DB7 : ℤ) ∣ 2 ^ k * a) :
    (0x104C11DB7 : ℤ) ∣ a :=
  ((Int.isCoprime_iff_gcd_eq_one.mpr (by norm_num) : IsCoprime (0x104C11DB7 : ℤ) 2).pow_right).dvd_of_dvd_mul_left h

/-- No two bits of a frame differ in weight by a multiple of `D`, nor do their weights add to one (R99). -/
theorem not_dvd_two_pow_add_sign : ∀ d < 56, 0 < d →
    ¬ (0x104C11DB7 : ℤ) ∣ 2 ^ d + 1 ∧ ¬ (0x104C11DB7 : ℤ) ∣ 2 ^ d - 1 := by
  decide

theorem not_dvd_sign_add_sign_mul (e f : ℤˣ) {d : Nat} (hd : d < 56) (hd0 : 0 < d) :
    ¬ (0x104C11DB7 : ℤ) ∣ e + f * 2 ^ d := by
  obtain ⟨hadd, hsub⟩ := not_dvd_two_pow_add_sign d hd hd0
  obtain rfl | rfl := Int.units_eq_one_or e <;> obtain rfl | rfl := Int.units_eq_one_or f <;> push_cast
  all_goals omega

theorem rejects_of_one_bit {v : Frame} (hv : accepts v = true) {k : Nat} (hk : k < 56) :
    accepts (v ^^^ BitVec.twoPow 56 k) = false := by
  rw [accepts_iff_dvd] at hv
  rw [← Bool.not_eq_true, accepts_iff_dvd]
  obtain ⟨e, he⟩ := xor_twoPow_toNat v hk
  rw [he, dvd_add_right hv, mul_comm]
  intro hdvd
  have hunit := dvd_of_dvd_two_pow_mul k hdvd
  obtain rfl | rfl := Int.units_eq_one_or e <;> exact absurd hunit (by decide)

theorem rejects_of_two_bits {v : Frame} (hv : accepts v = true) {j k : Nat} (hjk : j < k) (hk : k < 56) :
    accepts (v ^^^ BitVec.twoPow 56 j ^^^ BitVec.twoPow 56 k) = false := by
  rw [accepts_iff_dvd] at hv
  rw [← Bool.not_eq_true, accepts_iff_dvd]
  obtain ⟨e, he⟩ := xor_twoPow_toNat v (hjk.trans hk)
  obtain ⟨f, hf⟩ := xor_twoPow_toNat (v ^^^ BitVec.twoPow 56 j) hk
  obtain ⟨d, rfl⟩ := Nat.exists_eq_add_of_lt hjk
  have hfactor : (e * 2 ^ j + f * 2 ^ (j + d + 1) : ℤ) = 2 ^ j * (e + f * 2 ^ (d + 1)) := by ring
  rw [hf, he, add_assoc, dvd_add_right hv, hfactor]
  exact fun hdvd => not_dvd_sign_add_sign_mul e f (by omega) d.succ_pos (dvd_of_dvd_two_pow_mul j hdvd)

/-- DEC of a rejected frame in the frame registers (R94, R96). -/
theorem exec_dec_writeFrame_rejects {v : Frame} (h : accepts v = false) (s : State) :
    ∃ t, exec .dec (s.writeFrame v) = .next t ∧ t.fvResult.valid = false ∧ t.err = s.err ||| 0x01#7 := by
  refine ⟨_, exec_dec _, ?_⟩
  rw [writeFrame_frame, decodeFrame_of_not_multiple ((accepts_eq_false_iff v).mp h)]
  exact ⟨rfl, rfl⟩

/-- Settles O17: the change of value is ±2^k, or 2^j times ±1 ± 2^(k-j), and `D` divides neither. -/
theorem oneAndTwoBitErrorsRejected : Obligations.OneAndTwoBitErrorsRejected :=
  ⟨fun s _ ha hk => exec_dec_writeFrame_rejects (rejects_of_one_bit ha hk) s,
    fun s _ _ ha hjk hk => exec_dec_writeFrame_rejects (rejects_of_two_bits ha hjk hk) s, by norm_num⟩

/-! ## The receive assembler's commands (R100, R101) -/

theorem encode_rxpush_toNat (b : Byte) : (encode (.rxpush b)).toNat = 0x00000003 + 256 * b.toNat := by
  revert b
  decide

theorem appendByte_eq_ofNat (buf : BitVec 48) (b : Byte) :
    appendByte buf b = BitVec.ofNat 48 (buf.toNat * 256 + b.toNat) := by
  apply BitVec.eq_of_toNat_eq
  rw [appendByte, BitVec.toNat_setWidth, toNat_append_eq_add, BitVec.toNat_ofNat]
  rfl

theorem add_one_eq_ofNat (n : BitVec 3) : n + 1 = BitVec.ofNat 3 (n.toNat + 1) := by
  apply BitVec.eq_of_toNat_eq
  rw [BitVec.toNat_add, BitVec.toNat_ofNat]
  rfl

/-- With at most five bytes held, the buffer with the next byte fits 48 bits (R44). -/
theorem appended_lt {buf n b : Nat} (hn : n < 6) (hbuf : buf < 256 ^ n) (hb : b < 256) : buf * 256 + b < 2 ^ 48 := by
  have hpow : 256 ^ n ≤ 256 ^ 5 := Nat.pow_le_pow_right (by decide) (by omega)
  omega

theorem assembled_toNat (buf : BitVec 48) (b : Byte) : (buf ++ b).toNat = buf.toNat * 256 + b.toNat :=
  toNat_append_eq_add buf b

theorem loaded_eq (v : Frame) (s : State) : s.loaded v =
    { s with
      frameHi := BitVec.ofNat 24 (v.toNat / 2 ^ 32), frameLo := BitVec.ofNat 32 v.toNat, rxBuf := 0, rxCnt := 0 } := by
  rw [State.loaded, extractLsb'_eq_ofNat, extractLsb'_eq_ofNat, pow_zero, Nat.div_one]

/-- The frame of R100's example. -/
def exampleFrame : Frame := 0xFFFFFF9B9FF795#56

/-- The state after reset, with the pushes of a frame's seven wire bytes to come. -/
def pushing (v : Frame) : State :=
  { State.reset with pending := (List.range 7).map fun k => commandEvent (.rxpush (wireByte v k)) }

theorem example_pushes :
    [0x0000FF03#32, 0x0000FF03#32, 0x0000FF03#32, 0x00009B03#32, 0x00009F03#32, 0x0000F703#32, 0x00009503#32].map
      (HostEvent.write (regAddr .cmd)) =
    (List.range 7).map fun k => commandEvent (.rxpush (wireByte exampleFrame k)) := by
  decide

/-- Settles O18: the seventh push is the decode step on the assembled frame, and the example is a case of R51's seven
pushes. -/
theorem rxpushAssembles : Obligations.RxpushAssembles := by
  refine ⟨encode_rxpush_toNat, ?_, ?_, ?_, ?_⟩
  · intro s b hcnt
    refine ⟨?_, fun hbuf => appended_lt hcnt hbuf b.isLt⟩
    rw [exec_rxpush_held b hcnt, appendByte_eq_ofNat, add_one_eq_ofNat]
  · intro s b hcnt v
    rw [exec_rxpush_seventh b hcnt, decodeFrame_eq_ite, loaded_eq, assembled_toNat]
  · intro s t ht
    cases (exec_enc s).symm.trans ht
    exact ⟨rfl, rfl⟩
  · obtain ⟨-, -, hpushes⟩ := sevenPushesReceiveBigEndian
    rw [example_pushes]
    obtain ⟨t, hrun, -, hframe, hcnt, hres⟩ := hpushes (pushing exampleFrame) exampleFrame [] (by decide) rfl rfl
      (List.append_nil _).symm
    have hhi : t.frameHi = 0xFFFFFF#24 := by rw [← frame_payloadField, hframe]; decide
    have hlo : t.frameLo = 0x9B9FF795#32 := by rw [← frame_checkField, hframe]; decide
    refine ⟨t, hrun, ?_, hlo, ?_, hcnt⟩
    · rw [readReg, hhi]
      rfl
    · rw [readReg, hres]
      decide

/-- Settles O19: with RXCNT 0 the invariant leaves the buffer no bit. -/
theorem rxflushDiscards : Obligations.RxflushDiscards := by
  refine ⟨rfl, exec_rxflush, ?_⟩
  intro s hinv hcnt
  obtain ⟨-, -, -, -, -, hbuf, -⟩ := hinv
  have hempty : s.rxBuf = 0 := by
    rw [hcnt] at hbuf
    exact BitVec.eq_of_toNat_eq (Nat.lt_one_iff.mp hbuf)
  rw [exec_rxflush, ← hempty, ← hcnt]

end Sys2Proof.Machine

namespace Sys2Proof.Machine

/-! ## The pure functions of the motion controller (spec/41_motion_control.md R120 to R122) -/

theorem absInt_eq_abs (v : Int) : absInt v = |v| := by
  unfold absInt
  split
  case isTrue h => exact (abs_of_neg h).symm
  case isFalse h => exact (abs_of_nonneg (Int.not_lt.mp h)).symm

theorem headingError_eq_emod (t h : Int) : headingError t h = (t - h + 180000) % 360000 - 180000 := by
  rw [headingError, fmod_eq_emod]
  rfl

theorem headingError_range (t h : Int) : -180000 ≤ headingError t h ∧ headingError t h ≤ 179999 := by
  rw [headingError_eq_emod]
  omega

/-- The heading error is a rotation from `h` to `t`, up to full turns (R120). -/
theorem dvd_sub_headingError (t h : Int) : (360000 : Int) ∣ (t - h) - headingError t h := by
  rw [headingError_eq_emod]
  omega

/-- Two rotations of one difference are whole turns apart, and a turn away from the range of `herr` nothing is
shorter (R120). -/
theorem abs_headingError_le {t h z : Int} (hz : (360000 : Int) ∣ (t - h) - z) : |headingError t h| ≤ |z| := by
  obtain ⟨hlo, hhi⟩ := headingError_range t h
  obtain ⟨k, hk⟩ := dvd_sub_comm.mp (dvd_sub_headingError t h)
  obtain ⟨m, hm⟩ := hz
  have hturns : z = headingError t h + 360000 * (-k - m) := by omega
  generalize -k - m = j at hturns
  generalize headingError t h = e at *
  obtain hj | rfl | hj : j ≤ -1 ∨ j = 0 ∨ 1 ≤ j := by omega
  · rw [abs_of_neg (a := z) (by omega), abs_le]
    constructor <;> omega
  · rw [hturns, mul_zero, add_zero]
  · rw [abs_of_pos (a := z) (by omega), abs_le]
    constructor <;> omega

theorem headingError_half_turn {t h : Int} (ht : (t - h) % 360000 = 180000) : headingError t h = -180000 := by
  rw [headingError_eq_emod]
  omega

/-- Settles O21: reduction modulo a full turn into [-180000, 180000). -/
theorem headingErrorIsShortestRotation : Obligations.HeadingErrorIsShortestRotation := by
  refine ⟨fun t h => ?_, by decide, by decide, by decide⟩
  obtain ⟨hlo, hhi⟩ := headingError_range t h
  exact ⟨headingError_eq_emod t h, hlo, hhi, dvd_sub_headingError t h, fun _ => abs_headingError_le,
    headingError_half_turn⟩

theorem correction_eq (e : Int) : correction e = if e < 0 then min (100000 + |e|) 125000 else min e 25000 := by
  rw [correction, absInt_eq_abs]
  rfl

/-- Settles O22: one band for each sign of the error. -/
theorem correctionBands : Obligations.CorrectionBands := by
  intro e
  have hcases := correction_cases e
  exact ⟨correction_eq e, by omega, by omega, by omega⟩

theorem correction_range (e : Int) : 0 ≤ correction e ∧ correction e ≤ 125000 := by
  have hcases := correction_cases e
  omega

theorem noiseGated_eq (a : Int) : noiseGated a = if |a| ≤ 500 then 0 else a := by
  rw [noiseGated, absInt_eq_abs]
  rfl

/-- Settles O23: the formula, evaluated on both sides of its bound. -/
theorem noiseGateInclusive : Obligations.NoiseGateInclusive :=
  ⟨noiseGated_eq, by decide, by decide, by decide, by decide⟩

/-! ## The diagnostic commands (R150, R151) -/

theorem bitVec_ofInt_fmod (v : Int) : BitVec.ofInt 32 (fmod v (2 ^ 32)) = BitVec.ofInt 32 v := by
  apply BitVec.eq_of_toNat_eq
  rw [fmod_eq_emod, BitVec.toNat_ofInt, BitVec.toNat_ofInt]
  exact congrArg Int.toNat (Int.emod_emod_of_dvd v dvd_rfl)

theorem exec_herr (s : State) :
    exec .herr s = .next { s with opres := BitVec.ofInt 32 (headingError s.opa.toInt s.opb.toInt) } := by
  rw [← bitVec_ofInt_fmod]
  rfl

theorem exec_corr (s : State) : exec .corr s = .next { s with opres := BitVec.ofInt 32 (correction s.opa.toInt) } := rfl

/-- HERR on operands whose heading error is known (R150). -/
theorem exec_herr_of_error {s : State} {e : Int} (he : headingError s.opa.toInt s.opb.toInt = e) :
    exec .herr s = .next { s with opres := BitVec.ofInt 32 e } := by
  rw [exec_herr, he]

/-- CORR on an operand whose correction is known (R151). -/
theorem exec_corr_of_opa {s : State} {a : Word} (ha : s.opa = a) :
    exec .corr s = .next { s with opres := BitVec.ofInt 32 (correction a.toInt) } := by
  rw [exec_corr, ha]

/-- Settles O34: the error fits 32 bits signed, and the corner cases evaluate it. -/
theorem herrEvaluates : Obligations.HerrEvaluates := by
  refine ⟨rfl, ?_, ?_, ?_, ?_⟩
  · intro s e
    have he : headingError s.opa.toInt s.opb.toInt = e := headingError_eq_emod _ _
    obtain ⟨hlo, hhi⟩ := headingError_range s.opa.toInt s.opb.toInt
    rw [he] at hlo hhi
    exact ⟨_, exec_herr_of_error he, rfl, BitVec.toInt_ofInt_eq_self (by decide) (by omega) (by omega)⟩
  · intro s ha hb
    exact exec_herr_of_error (e := -167295) (by rw [ha, hb]; decide)
  · intro s hhalf
    exact exec_herr_of_error (headingError_half_turn hhalf)
  · intro s ha hb
    exact exec_herr_of_error (e := -20000) (by rw [ha, hb]; decide)

/-- Settles O35: the correction fits unsigned, and the corner cases evaluate it. -/
theorem corrEvaluates : Obligations.CorrEvaluates := by
  refine ⟨rfl, ?_, fun s => exec_corr_of_opa, fun s => exec_corr_of_opa, fun s => exec_corr_of_opa,
    fun s => exec_corr_of_opa⟩
  intro s e c
  have hc : correction s.opa.toInt = c := correction_eq _
  obtain ⟨hlo, hhi⟩ := correction_range s.opa.toInt
  rw [hc] at hlo hhi
  refine ⟨_, hc ▸ exec_corr s, rfl, ?_⟩
  show ((BitVec.ofInt 32 c).toNat : Int) = c
  rw [BitVec.toNat_ofInt]
  omega

/-! ## ENQ and HALT (R130, R131) -/

theorem exec_halt (s : State) : exec .halt s =
    .next { s with fifo := [], phase := .idle, motYaw := 0, motFwd := 0, zeroCnt := s.zeroCnt + 1 } := rfl

theorem mcState_phase_and_qcount (s : State) :
    (readReg .mcState s).extractLsb' 0 6 = BitVec.ofNat 4 s.fifo.length ++ s.phase.code := by
  apply extractLsb'_eq_of_toNat
  have hcode := s.phase.code.isLt
  rw [readReg, mcStateWord_toNat, toNat_append_eq_add, BitVec.toNat_ofNat]
  omega

/-- Settles O26: PHASE and QCOUNT are the six low bits of MC_STATE. -/
theorem haltStopsMotors : Obligations.HaltStopsMotors := by
  refine ⟨rfl, exec_halt, ?_⟩
  intro s t ht
  cases (exec_halt s).symm.trans ht
  exact (mcState_phase_and_qcount _).trans (by decide : BitVec.ofNat 4 0 ++ Phase.idle.code = 0#6)

/-- Settles O25: the two paths of ENQ, and program P2 run from reset. -/
theorem enqAppendsOrRaisesQfull : Obligations.EnqAppendsOrRaisesQfull := by
  refine ⟨rfl, ?_, ?_, ?_⟩
  · intro s hroom
    obtain ⟨hfull, -⟩ | ⟨-, hx⟩ := execEnq_cases s
    · exact absurd hfull hroom
    · exact ⟨_, hx, rfl, by rw [mcState_qcount, List.length_append]; rfl⟩
  · intro s hfull
    obtain ⟨-, hx⟩ | ⟨hroom, -⟩ := execEnq_cases s
    · exact hx
    · exact absurd hfull hroom
  · exact ⟨_, rfl, by decide, by decide, by decide⟩

/-! ## TICK (R140 to R144, R146) -/

theorem exec_tick_of_idle_empty {s : State} (hp : s.phase = .idle) (hf : s.fifo = []) : exec .tick s = .next s := by
  rw [exec, execTick, hp, hf]

theorem exec_tick_of_queued {s : State} {task : Task} {rest : List Task} (hp : s.phase = .idle)
    (hf : s.fifo = task :: rest) : exec .tick s = .next (runPhase (startTask task rest s)) := by
  rw [exec, execTick, hp, hf]

/-- Settles O29: no phase runs. -/
theorem tickIdleDoesNothing : Obligations.TickIdleDoesNothing :=
  ⟨rfl, fun _ => exec_tick_of_idle_empty⟩

/-- The started state, element by element (R141). -/
theorem startTask_eq (task : Task) (rest : List Task) (s : State) : startTask task rest s =
    { s with
      fifo := rest
      headDefaulted := !s.headOk
      err := if s.headOk then s.err else s.err ||| 0x08#7
      mcTarget := BitVec.ofInt 32 (((if s.headOk then s.heading else 0) + task.turn.toInt) % 360000)
      taskDist := task.dist
      inTol := 0, still := 0, aPrev := 0, vX := 0, pX := 0
      phase := .turning } := by
  rw [← fmod_eq_emod]
  unfold startTask
  cases s.headOk <;> rfl

theorem target_toNat (a : Int) : ((BitVec.ofInt 32 (a % 360000)).toNat : Int) = a % 360000 := by
  rw [BitVec.toNat_ofInt]
  omega

/-- Settles O30: the TICK is the phase part run on the started state, which is in TURNING. -/
theorem tickStartsHeadTask : Obligations.TickStartsHeadTask := by
  intro s task rest hp hf hv h started
  have hstart : startTask task rest s = started := startTask_eq task rest s
  have htick : exec .tick s = .next (runPhase started) := hstart ▸ exec_tick_of_queued hp hf
  have hturning : started.phase ≠ .idle := nofun
  exact ⟨htick.trans (exec_tick_of_running hturning).symm, target_toNat _, mcState_qcount started, _, htick⟩

/-- The in-tolerance count as a number: in a reachable state it does not wrap, and it ends a phase at 2 (R142, R145). -/
theorem countInTol_abs {n : BitVec 2} (hn : n.toNat ≤ 1) (e b : Int) :
    countInTol (absInt e ≤ b) n = BitVec.ofNat 2 (if |e| ≤ b then n.toNat + 1 else 0) ∧
      (countInTol (absInt e ≤ b) n = 2#2 ↔ (if |e| ≤ b then n.toNat + 1 else 0) = 2) := by
  rw [absInt_eq_abs]
  by_cases he : |e| ≤ b
  · simp only [he, decide_true, if_true]
    clear he
    revert n
    decide
  · simp only [he, decide_false, if_false]
    exact ⟨rfl, nofun, nofun⟩

theorem exec_tick_of_turning {s : State} (hp : s.phase = .turning) (hv : s.sensValid.getLsbD 0 = true) :
    exec .tick s = .next (turningStep s) := by
  rw [exec_tick_of_running (by rw [hp]; decide), runPhase_of_turning hp]
  exact congrArg _ (if_pos hv)

/-- Settles O31: the two outcomes of a Turning step are told apart by the count. -/
theorem tickTurns : Obligations.TickTurns := by
  intro s hp hv htol e n
  obtain ⟨hn, htwo⟩ : turnCount s = BitVec.ofNat 2 n ∧ (turnCount s = 2#2 ↔ n = 2) := countInTol_abs htol e 1000
  rw [exec_tick_of_turning hp hv]
  obtain ⟨hc, ht⟩ | ⟨hc, ht⟩ := turningStep_cases s
  · rw [if_pos (htwo.mp hc), ht]
  · rw [if_neg (mt htwo.mpr hc), ht, hn]
    rfl

/-- Both sensors are valid exactly when SENS_VALID reads 3 (R43). -/
theorem headOk_and_accOk_iff (s : State) : (s.headOk && s.accOk) = true ↔ s.sensValid = 3#2 := by
  unfold State.headOk State.accOk
  generalize s.sensValid = v
  revert v
  decide

/-- A required sensor is invalid in a running phase (R143, R144). -/
def State.Blind (s : State) : Prop :=
  (s.phase = .turning ∧ s.sensValid.getLsbD 0 = false) ∨ (s.phase = .advancing ∧ s.sensValid ≠ 3#2)

theorem exec_tick_of_blind {s : State} (h : s.Blind) : exec .tick s = .next (sensorHold s) := by
  obtain ⟨hp, hv⟩ | ⟨hp, hv⟩ := h
  · rw [exec_tick_of_running (by rw [hp]; decide), runPhase_of_turning hp]
    exact congrArg _ (if_neg (Bool.not_eq_true _ ▸ hv))
  · rw [exec_tick_of_running (by rw [hp]; decide), runPhase_of_advancing hp,
      if_neg (mt (headOk_and_accOk_iff s).mp hv)]

/-- Settles O32: both alternatives run `sensorHold`. -/
theorem tickHoldsWhileBlind : Obligations.TickHoldsWhileBlind :=
  fun _ => exec_tick_of_blind

end Sys2Proof.Machine

namespace Sys2Proof.Machine

/-! ## A TICK in ADVANCING (R124, R145) -/

/-- STILL after a sample, as a number; drift suppression is its fifth count and every further one (R124). -/
theorem countStill_eq (quiet : Bool) (n : BitVec 3) :
    countStill quiet n = BitVec.ofNat 3 (if quiet then min (n.toNat + 1) 5 else 0) ∧
      (countStill quiet n = 5#3 ↔ (if quiet then min (n.toNat + 1) 5 else 0) = 5) := by
  revert quiet n
  decide

section Estimator

variable (s : State)

/-- The gated forward acceleration of the sample in the sensor registers (R122). -/
def State.gatedX : Int := noiseGated s.sensAx.toInt

/-- STILL after the sample (R124). -/
def State.stillAfter : BitVec 3 :=
  countStill (s.gatedX = 0 && noiseGated s.sensAy.toInt = 0 && noiseGated s.sensAz.toInt = 0) s.still

/-- The velocity's trapezoid before it is forced or clamped (R124). -/
def State.velocitySum : Int := s.vX.toInt + (s.aPrev.toInt + s.gatedX) * s.cfg.dtUs

/-- The velocity after the sample (R124). -/
def State.velocityAfter : Int := if s.stillAfter = 5#3 then 0 else satS64 s.velocitySum

/-- The position's trapezoid, of the velocity before and after forcing (R124). -/
def State.positionSum : Int := s.pX.toInt + (s.vX.toInt + s.velocityAfter) * s.cfg.dtUs

/-- The sample clamps the position, or a velocity that it does not force (R124). -/
def State.estimateClamps : Bool :=
  (!decide (s.stillAfter = 5#3) && clampsS64 s.velocitySum) || clampsS64 s.positionSum

/-- The state after the dead-reckoning step on the sample in the sensor registers (R124, R145). -/
def State.estimated : State :=
  { s.raiseWhen s.estimateClamps .accSat with
    still := s.stillAfter, aPrev := BitVec.ofInt 32 s.gatedX, vX := BitVec.ofInt 64 s.velocityAfter
    pX := BitVec.ofInt 64 (satS64 s.positionSum) }

theorem estStep_eq_estimated : estStep (sext s.sensAx) (sext s.sensAy) (sext s.sensAz) s = s.estimated := rfl

/-- The position after the sample, read back in mm (R35, R124). -/
theorem estimated_posMm : s.estimated.posMm = satS64 s.positionSum / 4000000000000 := by
  rw [← sext_ofInt_satS64]
  rfl

end Estimator

theorem exec_tick_of_advancing {s : State} (hp : s.phase = .advancing) (hv : s.sensValid = 3#2) :
    exec .tick s = .next (advanceControl s.estimated) := by
  rw [exec_tick_of_running (by rw [hp]; decide), runPhase_of_advancing hp, if_pos ((headOk_and_accOk_iff s).mpr hv)]
  rfl

/-- The control part of an Advancing step in numbers (R145). -/
theorem advanceControl_eq {s : State} (htol : s.inTol.toNat ≤ 1) : advanceControl s =
    let de : Int := s.taskDist.toNat - s.posMm
    let n := if |de| ≤ 100 then s.inTol.toNat + 1 else 0
    if n = 2 then
      { s with
        inTol := 0, phase := .idle, motYaw := 0, motFwd := 0, zeroCnt := s.zeroCnt + 1, doneCnt := s.doneCnt + 1 }
    else
      { s with
        inTol := BitVec.ofNat 2 n
        motFwd := BitVec.ofInt 17 (correction de)
        motYaw := BitVec.ofInt 17
          (correction (headingError s.mcTarget.toNat s.sensHead.toInt / 2 ^ s.cfg.yawAdvShift)) } := by
  obtain ⟨hn, htwo⟩ : advanceCount s = _ ∧ (advanceCount s = 2#2 ↔ _) :=
    countInTol_abs htol (uval s.taskDist - s.posMm) Config.tolDist
  obtain ⟨hc, ha⟩ | ⟨hc, ha⟩ := advanceControl_cases s
  · exact ha.trans (if_pos (htwo.mp hc)).symm
  · rw [hn] at ha
    exact ha.trans (if_neg (mt htwo.mpr hc)).symm

/-- Settles O33: the dead-reckoning step in the statement's numbers, then the control part on the state it leaves. -/
theorem tickAdvances : Obligations.TickAdvances := by
  intro s hp hv htol gate clamp gx quiet still vOld vSum vNew pSum clamped moved de n
  have hgate : ∀ a : Word, noiseGated a.toInt = gate a := fun a => noiseGated_eq a.toInt
  have hgx : s.gatedX = gx := hgate s.sensAx
  obtain ⟨hstill, hforced⟩ : s.stillAfter = BitVec.ofNat 3 still ∧ (s.stillAfter = 5#3 ↔ still = 5) := by
    rw [State.stillAfter, hgx, hgate, hgate, Bool.and_assoc, ← Bool.decide_and, ← Bool.decide_and]
    exact countStill_eq quiet s.still
  have hvSum : s.velocitySum = vSum := by
    rw [State.velocitySum, hgx]
  have hvNew : s.velocityAfter = vNew := by
    rw [State.velocityAfter, hvSum]
    simp only [hforced]
    rfl
  have hpSum : s.positionSum = pSum := by
    rw [State.positionSum, hvNew]
  have hclamped : s.estimateClamps = clamped := by
    rw [State.estimateClamps, hvSum, hpSum]
    simp only [hforced, clampsS64, clamped, Bool.decide_or, Bool.decide_and, decide_not, ne_eq]
    rfl
  have hmoved : s.estimated = moved := by
    rw [State.estimated, hstill, hgx, hvNew, hpSum, hclamped]
    rfl
  have hpos : moved.posMm = clamp pSum / 4000000000000 := by
    rw [← hmoved, estimated_posMm, hpSum]
    rfl
  rw [exec_tick_of_advancing hp hv, hmoved, advanceControl_eq (s := moved) htol, hpos]

/-! ## What a diagnostic command leaves to the TICK (R152) -/

/-- `s` with another value in OPRES. -/
def State.withOpres (v : Word) (s : State) : State := { s with opres := v }

theorem exec_diagnostic {i : Instr} (hi : i = .herr ∨ i = .corr) (s : State) :
    ∃ v, exec i s = .next (s.withOpres v) := by
  obtain rfl | rfl := hi
  · exact ⟨_, exec_herr s⟩
  · exact ⟨_, exec_corr s⟩

section Opres

variable (v : Word) (s : State)

theorem turningStep_withOpres : turningStep (s.withOpres v) = (turningStep s).withOpres v := by
  obtain ⟨hc, ht⟩ | ⟨hc, ht⟩ := turningStep_cases s <;> rw [ht]
  · exact if_pos hc
  · exact if_neg hc

theorem advanceControl_withOpres : advanceControl (s.withOpres v) = (advanceControl s).withOpres v := by
  obtain ⟨hc, ha⟩ | ⟨hc, ha⟩ := advanceControl_cases s <;> rw [ha]
  · exact if_pos hc
  · exact if_neg hc

theorem advancingStep_withOpres : advancingStep (s.withOpres v) = (advancingStep s).withOpres v :=
  advanceControl_withOpres v (estStep (sext s.sensAx) (sext s.sensAy) (sext s.sensAz) s)

/-- No phase of the controller reads or writes OPRES. -/
theorem runPhase_withOpres : runPhase (s.withOpres v) = (runPhase s).withOpres v := by
  cases hp : s.phase with
  | idle => rw [runPhase, runPhase, show (s.withOpres v).phase = .idle from hp, hp]
  | turning =>
    rw [runPhase_of_turning hp, runPhase_of_turning (s := s.withOpres v) hp, turningStep_withOpres,
      apply_ite (State.withOpres v)]
    rfl
  | advancing =>
    rw [runPhase_of_advancing hp, runPhase_of_advancing (s := s.withOpres v) hp, advancingStep_withOpres,
      apply_ite (State.withOpres v)]
    rfl

end Opres

/-- A TICK commutes with a change of OPRES. -/
theorem exec_tick_withOpres (v : Word) {s u : State} (hu : exec .tick s = .next u) :
    exec .tick (s.withOpres v) = .next (u.withOpres v) := by
  by_cases hp : s.phase = .idle
  · cases hf : s.fifo with
    | nil =>
      cases (exec_tick_of_idle_empty hp hf).symm.trans hu
      exact exec_tick_of_idle_empty (s := s.withOpres v) hp hf
    | cons task rest =>
      cases (exec_tick_of_queued hp hf).symm.trans hu
      rw [← runPhase_withOpres]
      exact exec_tick_of_queued (s := s.withOpres v) hp hf
  · cases (exec_tick_of_running hp).symm.trans hu
    rw [← runPhase_withOpres]
    exact exec_tick_of_running (s := s.withOpres v) hp

/-- Settles O36: both commands change OPRES alone, with which a TICK commutes. -/
theorem diagnosticsDisturbNothing : Obligations.DiagnosticsDisturbNothing := by
  intro s i hi
  obtain ⟨v, hv⟩ := exec_diagnostic hi s
  exact ⟨_, hv, rfl, fun _ => exec_tick_withOpres v⟩

end Sys2Proof.Machine

namespace Sys2Proof.Machine

/-! ## What a command does to the motion controller's control elements (R123, R130, R131, R140) -/

/-- The elements by which the motion controller acts on the motors, with the counts of what stopped them, and the
host's events. -/
structure Control where
  /-- MC_STATE.PHASE -/
  phase : Phase
  /-- the motion-task FIFO -/
  fifo : List Task
  /-- MOT_YAW -/
  motYaw : BitVec 17
  /-- MOT_FWD -/
  motFwd : BitVec 17
  /-- ZERO_CNT -/
  zeroCnt : BitVec 32
  /-- DONE_CNT -/
  doneCnt : BitVec 32
  /-- FV_COUNT.REJECT_CNT -/
  rejectCnt : BitVec 16
  /-- the host's events still to come -/
  pending : List HostEvent

/-- The control elements of a state. -/
def State.control (s : State) : Control where
  phase := s.phase
  fifo := s.fifo
  motYaw := s.motYaw
  motFwd := s.motFwd
  zeroCnt := s.zeroCnt
  doneCnt := s.doneCnt
  rejectCnt := s.rejectCnt
  pending := s.pending

/-- The zero event on the control elements (R123). -/
def Control.zeroed (c : Control) : Control := { c with motYaw := 0, motFwd := 0, zeroCnt := c.zeroCnt + 1 }

/-- Everything that a command can do to the control elements. -/
inductive ControlStep (c : Control) : Instr → Control → Prop where
  /-- any command but HALT can leave them -/
  | quiet {i : Instr} (hi : i ≠ .halt) : ControlStep c i c
  /-- HALT (R131) -/
  | halt : ControlStep c .halt { c.zeroed with fifo := [], phase := .idle }
  /-- the rejection of a frame (R96) -/
  | reject {i : Instr} (hi : i = .dec ∨ ∃ b, i = .rxpush b) :
    ControlStep c i { c.zeroed with rejectCnt := c.rejectCnt + 1 }
  /-- ENQ with room in the FIFO (R130) -/
  | enqueue (task : Task) : ControlStep c .enq { c with fifo := c.fifo ++ [task] }
  /-- a TICK that finds a task and does not complete it (R141 to R145) -/
  | drive (phase : Phase) (fifo : List Task) (yaw fwd : BitVec 17) (hbusy : ¬ (c.phase = .idle ∧ c.fifo = [])) :
    ControlStep c .tick { c with phase := phase, fifo := fifo, motYaw := yaw, motFwd := fwd }
  /-- a TICK that completes its task (R145) -/
  | complete (fifo : List Task) (hbusy : ¬ (c.phase = .idle ∧ c.fifo = [])) :
    ControlStep c .tick { c.zeroed with phase := .idle, fifo := fifo, doneCnt := c.doneCnt + 1 }

theorem decodeFrame_control (v : Frame) (src : Bool) (s : State) {i : Instr} (hi : i = .dec ∨ ∃ b, i = .rxpush b) :
    ControlStep s.control i (decodeFrame v src s).control := by
  obtain ⟨-, hd⟩ | ⟨-, hd⟩ := decodeFrame_cases s v src <;> rw [hd]
  · exact .quiet (by obtain rfl | ⟨b, rfl⟩ := hi <;> nofun)
  · exact .reject hi

/-- The phase part of a TICK writes the phase and the motors, or completes the task (R140 to R145). -/
theorem runPhase_control (s : State) :
    (∃ phase yaw fwd, (runPhase s).control = { s.control with phase := phase, motYaw := yaw, motFwd := fwd }) ∨
    (runPhase s).control = { s.control.zeroed with phase := .idle, doneCnt := s.doneCnt + 1 } := by
  obtain ⟨-, hr⟩ | ⟨-, -, hr⟩ | ⟨-, -, -, hr⟩ | ⟨-, hr⟩ := runPhase_cases s <;> rw [hr]
  · exact Or.inl ⟨_, _, _, rfl⟩
  · obtain ⟨-, ht⟩ | ⟨-, ht⟩ := turningStep_cases s <;> rw [ht] <;> exact Or.inl ⟨_, _, _, rfl⟩
  · rw [advancingStep, estStep_eq_estimated]
    obtain ⟨-, ha⟩ | ⟨-, ha⟩ := advanceControl_cases s.estimated <;> rw [ha]
    · exact Or.inr rfl
    · exact Or.inl ⟨_, _, _, rfl⟩
  · exact Or.inl ⟨_, _, _, rfl⟩

theorem execTick_control (s : State) : ∃ t, execTick s = .next t ∧ ControlStep s.control .tick t.control := by
  obtain ⟨-, -, hx⟩ | ⟨task, rest, -, hf, hx⟩ | ⟨hp, hx⟩ | ⟨hp, hx⟩ := execTick_cases s <;> refine ⟨_, hx, ?_⟩
  · exact .quiet nofun
  · have hbusy : ¬ (s.control.phase = .idle ∧ s.control.fifo = []) := fun ⟨_, hnil⟩ => nomatch hf.symm.trans hnil
    obtain ⟨phase, yaw, fwd, hr⟩ | hr := runPhase_control (startTask task rest s) <;> rw [hr]
    · exact .drive phase rest yaw fwd hbusy
    · exact .complete rest hbusy
  all_goals
    have hbusy : ¬ (s.control.phase = .idle ∧ s.control.fifo = []) := fun ⟨hidle, _⟩ => nomatch hp.symm.trans hidle
    obtain ⟨phase, yaw, fwd, hr⟩ | hr := runPhase_control s <;> rw [hr]
    · exact .drive phase s.fifo yaw fwd hbusy
    · exact .complete s.fifo hbusy

/-- Every command answers a next state, and these are its effects on the control elements. -/
theorem exec_control (i : Instr) (s : State) : ∃ t, exec i s = .next t ∧ ControlStep s.control i t.control := by
  cases i with
  | enc => exact ⟨_, exec_enc s, .quiet nofun⟩
  | dec => exact ⟨_, exec_dec s, decodeFrame_control _ _ s (.inl rfl)⟩
  | rxpush b =>
    by_cases h : s.rxCnt.toNat < 6
    · exact ⟨_, exec_rxpush_held b h, .quiet nofun⟩
    · exact ⟨_, exec_rxpush_seventh b h, decodeFrame_control _ _ (s.loaded _) (.inr ⟨b, rfl⟩)⟩
  | rxflush => exact ⟨_, exec_rxflush s, .quiet nofun⟩
  | enq =>
    obtain ⟨-, hx⟩ | ⟨-, hx⟩ := execEnq_cases s
    · exact ⟨_, hx, .quiet nofun⟩
    · exact ⟨_, hx, .enqueue s.taskOperand⟩
  | halt => exact ⟨_, exec_halt s, .halt⟩
  | tick => exact execTick_control s
  | herr => exact ⟨_, exec_herr s, .quiet nofun⟩
  | corr => exact ⟨_, exec_corr s, .quiet nofun⟩

theorem ControlStep.of_exec {i : Instr} {s t : State} (h : exec i s = .next t) :
    ControlStep s.control i t.control := by
  obtain ⟨t', ht, hc⟩ := exec_control i s
  cases ht.symm.trans h
  exact hc

/-! ## What a step does to the control elements (R54, R210) -/

theorem writeReg_control (r : Reg) (v : Word) (s : State) : (writeReg r v s).control = s.control := by
  cases r <;> rfl

/-- A host event is the reset input, issues a command, or leaves the control elements. -/
theorem hostEvent_control (e : HostEvent) (s : State) : ∃ t, hostEvent e s = .next t ∧
    ((e = .reset ∧ t.control = { State.reset.control with pending := s.pending }) ∨
     (∃ i, issues i e ∧ ControlStep s.control i t.control) ∨
     ((∀ i, ¬ issues i e) ∧ t.control = s.control)) := by
  cases e with
  | reset => exact ⟨_, rfl, .inl ⟨rfl, rfl⟩⟩
  | read a => exact ⟨_, rfl, .inr (.inr ⟨fun _ h => h, rfl⟩)⟩
  | write a v =>
    by_cases ha : a = regAddr .cmd
    · obtain ⟨i, hd, hx⟩ | ⟨err, hd, hx⟩ := executeCommand_cases s v
      · obtain ⟨t, ht, hc⟩ := exec_control i s
        exact ⟨t, by rw [ha]; exact hx.trans ht, .inr (.inl ⟨i, ⟨ha, hd⟩, hc⟩)⟩
      · exact ⟨s.raise .illegalCmd, by rw [ha]; exact hx,
          .inr (.inr ⟨fun _ ⟨_, hok⟩ => (nomatch hd.symm.trans hok), rfl⟩)⟩
    · have hno : ∀ i, ¬ issues i (.write a v) := fun _ ⟨hcmd, _⟩ => ha hcmd
      obtain ⟨-, hb⟩ | ⟨r, -, -, hb⟩ | ⟨r, -, -, hb⟩ | ⟨-, hb⟩ | ⟨hcmd, -⟩ := busWrite_cases s a v
      · exact ⟨_, hb, .inr (.inr ⟨hno, rfl⟩)⟩
      · exact ⟨_, hb, .inr (.inr ⟨hno, rfl⟩)⟩
      · exact ⟨_, hb, .inr (.inr ⟨hno, writeReg_control r v s⟩)⟩
      · exact ⟨_, hb, .inr (.inr ⟨hno, rfl⟩)⟩
      · exact absurd hcmd ha

/-- With parameters in range, a step serves the first pending event, with these effects on the control elements. -/
theorem step_control {s : State} {e : HostEvent} {rest : List HostEvent} (hr : s.cfg.inRange = true)
    (hp : s.pending = e :: rest) : ∃ t, step s = .next t ∧
    ((e = .reset ∧ t.control = { State.reset.control with pending := rest }) ∨
     (∃ i, issues i e ∧ ControlStep { s.control with pending := rest } i t.control) ∨
     ((∀ i, ¬ issues i e) ∧ t.control = { s.control with pending := rest })) := by
  rw [step_of_pending s hr hp]
  exact hostEvent_control e { s with pending := rest }

/-! ## The zero events (R123) -/

/-- The command performs a zero event: it is HALT, it rejects a frame, or it completes a task (R123). -/
def ZeroEvent (i : Instr) (c d : Control) : Prop :=
  i = .halt ∨ ((i = .dec ∨ ∃ b, i = .rxpush b) ∧ d.rejectCnt ≠ c.rejectCnt) ∨ (i = .tick ∧ d.doneCnt ≠ c.doneCnt)

theorem not_zeroEvent {i : Instr} {c d : Control} (hi : i ≠ .halt) (hrej : d.rejectCnt = c.rejectCnt)
    (hdone : d.doneCnt = c.doneCnt) : ¬ ZeroEvent i c d := by
  rintro (hhalt | ⟨-, hne⟩ | ⟨-, hne⟩)
  · exact hi hhalt
  · exact hne hrej
  · exact hne hdone

/-- A zero event counts itself and sets both motors to 0; every other effect leaves ZERO_CNT (R123). -/
theorem ControlStep.zeroEvent_cases {i : Instr} {c d : Control} (h : ControlStep c i d) :
    (ZeroEvent i c d ∧ d.zeroCnt = c.zeroCnt + 1 ∧ d.motYaw = 0 ∧ d.motFwd = 0) ∨
    (¬ ZeroEvent i c d ∧ d.zeroCnt = c.zeroCnt) := by
  cases h with
  | quiet hi => exact .inr ⟨not_zeroEvent hi rfl rfl, rfl⟩
  | halt => exact .inl ⟨.inl rfl, rfl, rfl, rfl⟩
  | reject hi => exact .inl ⟨.inr (.inl ⟨hi, add_ne_left.mpr (by decide)⟩), rfl, rfl, rfl⟩
  | enqueue task => exact .inr ⟨not_zeroEvent nofun rfl rfl, rfl⟩
  | drive phase fifo yaw fwd hbusy => exact .inr ⟨not_zeroEvent nofun rfl rfl, rfl⟩
  | complete fifo hbusy => exact .inl ⟨.inr (.inr ⟨rfl, add_ne_left.mpr (by decide)⟩), rfl, rfl, rfl⟩

/-- A TICK decodes no frame. -/
theorem ControlStep.rejectCnt_of_tick {c d : Control} (h : ControlStep c .tick d) : d.rejectCnt = c.rejectCnt := by
  cases h with
  | quiet hi => rfl
  | reject hi => obtain htick | ⟨b, htick⟩ := hi <;> cases htick
  | drive phase fifo yaw fwd hbusy => rfl
  | complete fifo hbusy => rfl

/-- An event issues at most one command. -/
theorem issues_unique {i j : Instr} {e : HostEvent} (hi : issues i e) (hj : issues j e) : i = j := by
  cases e with
  | write a w =>
    obtain ⟨-, hdi⟩ := hi
    obtain ⟨-, hdj⟩ := hj
    exact Except.ok.inj (hdi.symm.trans hdj)
  | read a => cases hi
  | reset => cases hi

/-- The zero events in words of the host: what the word written to CMD decodes to. -/
theorem zeroEventWord_iff (s t : State) :
    (∃ w rest, s.pending = .write (regAddr .cmd) w :: rest ∧
      (decode w = .ok .halt ∨
       ((decode w = .ok .dec ∨ ∃ b, decode w = .ok (.rxpush b)) ∧ t.rejectCnt ≠ s.rejectCnt) ∨
       (decode w = .ok .tick ∧ t.doneCnt ≠ s.doneCnt))) ↔
    ∃ e rest i, s.pending = e :: rest ∧ issues i e ∧ ZeroEvent i s.control t.control := by
  constructor
  · rintro ⟨w, rest, hp, hd | ⟨hd | ⟨b, hd⟩, hne⟩ | ⟨hd, hne⟩⟩
    · exact ⟨_, rest, _, hp, ⟨rfl, hd⟩, .inl rfl⟩
    · exact ⟨_, rest, _, hp, ⟨rfl, hd⟩, .inr (.inl ⟨.inl rfl, hne⟩)⟩
    · exact ⟨_, rest, _, hp, ⟨rfl, hd⟩, .inr (.inl ⟨.inr ⟨b, rfl⟩, hne⟩)⟩
    · exact ⟨_, rest, _, hp, ⟨rfl, hd⟩, .inr (.inr ⟨rfl, hne⟩)⟩
  · rintro ⟨e, rest, i, hp, hi, hz⟩
    cases e with
    | read a => cases hi
    | reset => cases hi
    | write a w =>
      obtain ⟨rfl, hd⟩ := hi
      refine ⟨w, rest, hp, ?_⟩
      obtain rfl | ⟨rfl | ⟨b, rfl⟩, hne⟩ | ⟨rfl, hne⟩ := hz
      · exact .inl hd
      · exact .inr (.inl ⟨.inl hd, hne⟩)
      · exact .inr (.inl ⟨.inr ⟨b, hd⟩, hne⟩)
      · exact .inr (.inr ⟨hd, hne⟩)

/-- A step that serves an event: exactly a zero event counts, and else only the reset input writes ZERO_CNT. -/
theorem step_zeroCnt {s t : State} {e : HostEvent} {rest : List HostEvent} (hp : s.pending = e :: rest)
    (hs : step s = .next t) :
    (∃ i, issues i e ∧ ZeroEvent i s.control t.control ∧ t.zeroCnt = s.zeroCnt + 1 ∧ t.motYaw = 0 ∧ t.motFwd = 0) ∨
    ((∀ i, issues i e → ¬ ZeroEvent i s.control t.control) ∧ (t.zeroCnt = s.zeroCnt ∨ e = .reset ∧ t.zeroCnt = 0)) := by
  obtain ⟨hr, -⟩ := step_next_cases hs
  obtain ⟨t', ht, hc⟩ := step_control hr hp
  cases ht.symm.trans hs
  obtain ⟨rfl, hc⟩ | ⟨i, hi, hc⟩ | ⟨hno, hc⟩ := hc
  · exact .inr ⟨nofun, .inr ⟨rfl, congrArg Control.zeroCnt hc⟩⟩
  · obtain ⟨hz, hcount⟩ | ⟨hz, hkeep⟩ := hc.zeroEvent_cases
    · exact .inl ⟨i, hi, hz, hcount⟩
    · exact .inr ⟨fun j hj => issues_unique hi hj ▸ hz, .inl hkeep⟩
  · exact .inr ⟨fun i hi => absurd hi (hno i), .inl (congrArg Control.zeroCnt hc)⟩

/-- Settles O24: by what the served event does to the control elements. -/
theorem zeroEventsOnlyAtThreePlaces : Obligations.ZeroEventsOnlyAtThreePlaces := by
  constructor
  · intro s t hs zeroEvent
    have hword : zeroEvent ↔ _ := zeroEventWord_iff s t
    rw [hword]
    cases hp : s.pending with
    | nil =>
      obtain ⟨-, ⟨-, rfl⟩ | ⟨e, rest, hcons, -⟩⟩ := step_next_cases hs
      · exact ⟨nofun, fun _ => .inl rfl⟩
      · exact nomatch hp.symm.trans hcons
    | cons e rest =>
      obtain ⟨i, hi, hz, hcount⟩ | ⟨hno, hkeep⟩ := step_zeroCnt hp hs
      · exact ⟨fun _ => hcount, fun hnot => absurd ⟨e, rest, i, rfl, hi, hz⟩ hnot⟩
      · refine ⟨?_, fun _ => ?_⟩
        · rintro ⟨_, _, i, ⟨⟩, hi, hz⟩
          exact absurd hz (hno i hi)
        · obtain hsame | ⟨rfl, hzero⟩ := hkeep
          · exact .inl hsame
          · exact .inr ⟨rest, rfl, hzero⟩
  · intro s t ht
    refine ⟨(ControlStep.of_exec ht).rejectCnt_of_tick, fun hblind => ?_⟩
    cases (exec_tick_of_blind hblind).symm.trans ht
    exact ⟨rfl, rfl, rfl⟩

/-! ## The Halt guarantee (R132) -/

/-- IDLE with both motors 0: what HALT leaves, and only a TICK ends. -/
def Control.Stopped (c : Control) : Prop := c.phase = .idle ∧ c.motYaw = 0 ∧ c.motFwd = 0

/-- Stopped with no task queued: what HALT leaves, and only an ENQ ends. -/
def Control.Halted (c : Control) : Prop := c.fifo = [] ∧ c.Stopped

/-- A property of the control elements that every step keeps unless it issues the command `i`. -/
structure KeptUnless (i : Instr) (P : Control → Prop) : Prop where
  /-- no other command ends it -/
  exec : ∀ {j c d}, ControlStep c j d → j ≠ i → P c → P d
  /-- the reset input establishes it -/
  reset : P State.reset.control
  /-- it says nothing about the host's events -/
  pending : ∀ {c} events, P c → P { c with pending := events }

theorem stopped_keptUnless_tick : KeptUnless .tick Control.Stopped where
  exec := by
    intro j c d h hj hc
    cases h with
    | quiet hi => exact hc
    | halt => exact ⟨rfl, rfl, rfl⟩
    | reject hi =>
      obtain ⟨hidle, -, -⟩ := hc
      exact ⟨hidle, rfl, rfl⟩
    | enqueue task => exact hc
    | drive phase fifo yaw fwd hbusy => exact absurd rfl hj
    | complete fifo hbusy => exact absurd rfl hj
  reset := ⟨rfl, rfl, rfl⟩
  pending := fun _ h => h

/-- A TICK finds no task in a halted machine (R146). -/
theorem halted_keptUnless_enq : KeptUnless .enq Control.Halted where
  exec := by
    intro j c d h hj ⟨hfifo, hidle, hmotors⟩
    cases h with
    | quiet hi => exact ⟨hfifo, hidle, hmotors⟩
    | halt => exact ⟨rfl, rfl, rfl, rfl⟩
    | reject hi => exact ⟨hfifo, hidle, rfl, rfl⟩
    | enqueue task => exact absurd rfl hj
    | drive phase fifo yaw fwd hbusy => exact absurd ⟨hidle, hfifo⟩ hbusy
    | complete fifo hbusy => exact absurd ⟨hidle, hfifo⟩ hbusy
  reset := ⟨rfl, rfl, rfl, rfl⟩
  pending := fun _ h => h

theorem ControlStep.pending_eq {i : Instr} {c d : Control} (h : ControlStep c i d) : d.pending = c.pending := by
  cases h <;> rfl

/-- A step that does not issue the command keeps the property, and takes one event. -/
theorem KeptUnless.step {i : Instr} {P : Control → Prop} (hP : KeptUnless i P) {s : State} {e : HostEvent}
    {rest : List HostEvent} (hr : s.cfg.inRange = true) (hp : s.pending = e :: rest) (he : ¬ issues i e)
    (hs : P s.control) : ∃ t, step s = .next t ∧ t.pending = rest ∧ P t.control := by
  obtain ⟨t, ht, ⟨-, hc⟩ | ⟨j, hj, hc⟩ | ⟨-, hc⟩⟩ := step_control hr hp <;> refine ⟨t, ht, ?_⟩
  · exact ⟨congrArg Control.pending hc, hc ▸ hP.pending rest hP.reset⟩
  · exact ⟨hc.pending_eq, hP.exec hc (fun hji => he (hji ▸ hj)) (hP.pending rest hs)⟩
  · exact ⟨congrArg Control.pending hc, hc ▸ hP.pending rest hs⟩

/-- A run over events that do not issue the command keeps the property, and serves them all. -/
theorem KeptUnless.run {i : Instr} {P : Control → Prop} (hP : KeptUnless i P) {rest : List HostEvent}
    (events : List HostEvent) {s : State} (hr : s.cfg.inRange = true) (hp : s.pending = events ++ rest)
    (he : ∀ e ∈ events, ¬ issues i e) (hs : P s.control) :
    ∃ t : State, Host.Core.run Sys2Proof.core events.length s = .next t ∧ t.cfg.inRange = true ∧ t.pending = rest ∧
      P t.control := by
  induction events generalizing s with
  | nil => exact ⟨s, rfl, hr, hp, hs⟩
  | cons e events ih =>
    obtain ⟨t, ht, hpend, hkept⟩ := hP.step hr hp (he e List.mem_cons_self) hs
    obtain ⟨u, hu⟩ := ih (step_cfg ht ▸ hr) hpend (fun x hx => he x (List.mem_cons_of_mem e hx)) hkept
    exact ⟨u, by rwa [List.length_cons, run_succ_of_next _ ht]⟩

/-- A run in two parts, on any machine. -/
theorem run_add_of_next (M : Host.Core) {m : Nat} (n : Nat) {x y : M.State} (h : M.run m x = .next y) :
    M.run (m + n) x = M.run n y := by
  induction m generalizing x with
  | zero => cases h; rw [Nat.zero_add]
  | succ m ih =>
    rw [Nat.succ_add]
    cases hs : M.step x with
    | next z =>
      rw [run_succ_of_step M m hs] at h
      rw [run_succ_of_step M (m + n) hs, ih h]
    | fault r => rw [Host.Core.run, hs] at h; cases h
    | refused r => rw [Host.Core.run, hs] at h; cases h

/-- Settles O27: HALT halts; until an ENQ the machine stays halted, and from then until a TICK it stays stopped. -/
theorem haltGuarantee : Obligations.HaltGuarantee := by
  refine ⟨?_, fun _ _ => rfl⟩
  intro s w before after rest hr hd hbefore hafter hp
  obtain ⟨h, hhalt, hhr, hhp, hhalted⟩ : ∃ h, step s = .next h ∧ h.cfg.inRange = true ∧
      h.pending = before ++ (after ++ rest) ∧ h.control.Halted :=
    ⟨_, (step_of_decode_ok hr hp hd).trans (exec_halt _), hr, List.append_assoc .., rfl, rfl, rfl, rfl⟩
  obtain ⟨t, ht, htr, htp, -, hstopped⟩ := halted_keptUnless_enq.run before hhr hhp hbefore hhalted
  obtain ⟨u, hu, -, hup, -, huyaw, hufwd⟩ := stopped_keptUnless_tick.run after htr htp hafter hstopped
  refine ⟨u, ?_, hup, huyaw, hufwd⟩
  have hone : Host.Core.run Sys2Proof.core 1 s = _ := run_succ_of_next 0 hhalt
  rw [Nat.add_assoc, run_add_of_next Sys2Proof.core _ hone, run_add_of_next Sys2Proof.core _ ht, hu]

end Sys2Proof.Machine

namespace Sys2Proof.Machine

/-! ## What one command can do to ERR (spec/60_exceptions.md R184) -/

/-- Everything that a command of the state `s` can do to ERR, by the command and the next state: at most one flag, and
the flag is the command's own. -/
inductive CommandFlag (s : State) : Instr → State → Prop where
  /-- any command can leave ERR as it is -/
  | quiet {i : Instr} {t : State} (herr : t.err = s.err) : CommandFlag s i t
  /-- a rejected frame (R96) -/
  | csumErr {i : Instr} {t : State} (hi : i = .dec ∨ ∃ b, i = .rxpush b)
    (herr : t.err = s.err ||| ErrFlag.csumErr.mask) : CommandFlag s i t
  /-- ENQ with the FIFO full (R130) -/
  | qFull {t : State} (herr : t.err = s.err ||| ErrFlag.qFull.mask) : CommandFlag s .enq t
  /-- a TICK on which a required sensor is invalid; it does not integrate (R141, R143, R144) -/
  | sensErr {t : State} (herr : t.err = s.err ||| ErrFlag.sensErr.mask) (hkept : s.phase = .advancing →
      t.still = s.still ∧ t.aPrev = s.aPrev ∧ t.vX = s.vX ∧ t.pX = s.pX) : CommandFlag s .tick t
  /-- ENC of a check value above 32 bits (R92) -/
  | encOvf {t : State} (herr : t.err = s.err ||| ErrFlag.encOvf.mask) : CommandFlag s .enc t
  /-- a TICK whose estimate is clamped (R124) -/
  | accSat {t : State} (herr : t.err = s.err ||| ErrFlag.accSat.mask) (hp : s.phase = .advancing)
    (hv : s.sensValid = 3#2) : CommandFlag s .tick t

/-- Raising a flag under a condition leaves ERR or sets that one bit (R180). -/
theorem raiseWhen_err_cases (c : Bool) (f : ErrFlag) (s : State) :
    (s.raiseWhen c f).err = s.err ∨ (s.raiseWhen c f).err = s.err ||| f.mask := by
  cases c
  · exact .inl rfl
  · exact .inr rfl

/-- The decode step raises CSUM_ERR or nothing; `s'` differs from `s` in what the receiver has loaded. -/
theorem decodeFrame_flag {i : Instr} (hi : i = .dec ∨ ∃ b, i = .rxpush b) (v : Frame) (src : Bool) {s s' : State}
    (h : s'.err = s.err) : CommandFlag s i (decodeFrame v src s') := by
  obtain ⟨-, hd⟩ | ⟨-, hd⟩ := decodeFrame_cases s' v src <;> rw [hd]
  · exact .quiet h
  · exact .csumErr hi (h ▸ rfl)

theorem turningStep_err (s : State) : (turningStep s).err = s.err := by
  obtain ⟨-, ht⟩ | ⟨-, ht⟩ := turningStep_cases s <;> rw [ht]

theorem advanceControl_err (s : State) : (advanceControl s).err = s.err := by
  obtain ⟨-, ha⟩ | ⟨-, ha⟩ := advanceControl_cases s <;> rw [ha]

/-- The phase part of a TICK: an Advancing step raises at most the estimator's flag, and a held phase raises SENS_ERR
and does not run the estimator (R184). -/
theorem runPhase_flag (s : State) : CommandFlag s .tick (runPhase s) := by
  obtain ⟨-, hr⟩ | ⟨-, -, hr⟩ | ⟨hp, hh, ha, hr⟩ | ⟨-, hr⟩ := runPhase_cases s <;> rw [hr]
  · exact .quiet rfl
  · exact .quiet (turningStep_err s)
  · have hv : s.sensValid = 3#2 := (headOk_and_accOk_iff s).mp (by rw [hh, ha]; rfl)
    have hadv : (advancingStep s).err = (s.raiseWhen s.estimateClamps .accSat).err := advanceControl_err s.estimated
    obtain hq | hsat := raiseWhen_err_cases s.estimateClamps .accSat s
    · exact .quiet (hadv.trans hq)
    · exact .accSat (hadv.trans hsat) hp hv
  · exact .sensErr rfl fun _ => ⟨rfl, rfl, rfl, rfl⟩

/-- A TICK that starts a task can raise SENS_ERR twice, at the start and in the Turning step, which sets one flag
(R141, R143, R184). -/
theorem runPhase_startTask_flag (task : Task) (rest : List Task) {s : State} (hp : s.phase = .idle) :
    CommandFlag s .tick (runPhase (startTask task rest s)) := by
  rw [runPhase_of_turning rfl, startTask_headOk]
  by_cases hok : s.headOk = true
  · rw [if_pos hok]
    refine .quiet ((turningStep_err _).trans ?_)
    rw [startTask_eq]
    exact if_pos hok
  · rw [if_neg hok]
    refine .sensErr ?_ fun hadv => nomatch hp.symm.trans hadv
    have hstart : (startTask task rest s).err = s.err ||| ErrFlag.sensErr.mask := by
      rw [startTask_eq]
      exact if_neg hok
    calc (startTask task rest s).err ||| ErrFlag.sensErr.mask
        = s.err ||| ErrFlag.sensErr.mask ||| ErrFlag.sensErr.mask := by rw [hstart]
      _ = s.err ||| ErrFlag.sensErr.mask := by rw [BitVec.or_assoc, BitVec.or_self]

/-- Every command raises at most the one flag that is its own. -/
theorem exec_flag {i : Instr} {s t : State} (h : exec i s = .next t) : CommandFlag s i t := by
  cases i with
  | enc =>
    cases h
    obtain hq | hovf := raiseWhen_err_cases (checkOverflows (checkValue s.fvPayload)) .encOvf s
    · exact .quiet hq
    · exact .encOvf hovf
  | dec => cases h; exact decodeFrame_flag (.inl rfl) _ _ rfl
  | rxpush b =>
    obtain ⟨-, hx⟩ | ⟨-, hx⟩ := execRxpush_cases s b <;> cases hx.symm.trans h
    · exact .quiet rfl
    · exact decodeFrame_flag (.inr ⟨b, rfl⟩) _ _ rfl
  | enq =>
    obtain ⟨-, hx⟩ | ⟨-, hx⟩ := execEnq_cases s <;> cases hx.symm.trans h
    · exact .qFull rfl
    · exact .quiet rfl
  | tick =>
    obtain ⟨-, -, hx⟩ | ⟨task, rest, hp, -, hx⟩ | ⟨-, hx⟩ | ⟨-, hx⟩ := execTick_cases s <;> cases hx.symm.trans h
    · exact .quiet rfl
    · exact runPhase_startTask_flag task rest hp
    · exact runPhase_flag s
    · exact runPhase_flag s
  | rxflush | halt | herr | corr => cases h; exact .quiet rfl

/-! ## What one access can do to ERR (spec/60_exceptions.md R184) -/

/-- Everything that a host event served in `s` can do to ERR, by the event and the next state: a command write that
decodes hands on to its command. -/
inductive AccessFlag (s : State) : HostEvent → State → Prop where
  /-- a mapped read and a write of an RW register leave ERR -/
  | quiet {e : HostEvent} {t : State} (herr : t.err = s.err) : AccessFlag s e t
  /-- the W1C write of ERR (R54) -/
  | clear {t : State} (v : Word) (herr : t.err = s.err &&& ~~~ (v.setWidth 7)) :
    AccessFlag s (.write (regAddr .err) v) t
  /-- the reset input (R211) -/
  | reset {t : State} (herr : t.err = 0) : AccessFlag s .reset t
  /-- a read of an unmapped word (R53) -/
  | readBusErr {a : WordAddr} {t : State} (herr : t.err = s.err ||| ErrFlag.busErr.mask)
    (hunmapped : ∀ r, 4 * a.toNat ≠ regOffset r) : AccessFlag s (.read a) t
  /-- a write to an unmapped word or to an RO register (R54) -/
  | writeBusErr {a : WordAddr} {v : Word} {t : State} (herr : t.err = s.err ||| ErrFlag.busErr.mask)
    (hro : ∀ r, 4 * a.toNat = regOffset r → regAccess r = .ro) : AccessFlag s (.write a v) t
  /-- a word that does not decode (R74) -/
  | illegalCmd {w : Word} {e : IllegalCommand} {t : State} (herr : t.err = s.err ||| ErrFlag.illegalCmd.mask)
    (hd : decode w = .error e) : AccessFlag s (.write (regAddr .cmd) w) t
  /-- a word that decodes (R70) -/
  | command {w : Word} {i : Instr} {t : State} (hd : decode w = .ok i) (hx : exec i s = .next t) :
    AccessFlag s (.write (regAddr .cmd) w) t

/-- No two registers share an offset (R22). -/
theorem regOffset_injective : Function.Injective regOffset := by
  intro r r' h
  have haddr : regAddr r = regAddr r' := congrArg wordAddrOf h
  have hsome : some r = some r' := by rw [← regAt_regAddr r, haddr, regAt_regAddr]
  exact Option.some.inj hsome

theorem busRead_flag (a : WordAddr) (s : State) : AccessFlag s (.read a) (busRead a s) := by
  obtain ⟨r, -, hb⟩ | ⟨hnone, hb⟩ := busRead_cases s a <;> rw [hb]
  · exact .quiet rfl
  · exact .readBusErr rfl ((regAt_eq_none_iff_offset a).mp hnone)

theorem busWrite_flag {a : WordAddr} {v : Word} {s t : State} (h : busWrite a v s = .next t) :
    AccessFlag s (.write a v) t := by
  obtain ⟨hnone, hb⟩ | ⟨r, rfl, hro, hb⟩ | ⟨r, -, -, hb⟩ | ⟨rfl, hb⟩ | ⟨rfl, hb⟩ := busWrite_cases s a v
  · cases hb.symm.trans h
    exact .writeBusErr rfl fun r hr => absurd hr ((regAt_eq_none_iff_offset a).mp hnone r)
  · cases hb.symm.trans h
    refine .writeBusErr rfl fun r' hr' => ?_
    rw [four_mul_regAddr_toNat] at hr'
    rwa [← regOffset_injective hr']
  · cases hb.symm.trans h
    exact .quiet (writeReg_err r v s)
  · cases hb.symm.trans h
    exact .clear v rfl
  · obtain ⟨i, hd, hc⟩ | ⟨e, hd, hc⟩ := executeCommand_cases s v
    · exact .command hd (hc.symm.trans (hb.symm.trans h))
    · cases hc.symm.trans (hb.symm.trans h)
      exact .illegalCmd rfl hd

theorem hostEvent_flag {e : HostEvent} {s t : State} (h : hostEvent e s = .next t) : AccessFlag s e t := by
  cases e with
  | read a => cases h; exact busRead_flag a s
  | write a v => exact busWrite_flag h
  | reset => cases h; exact .reset rfl

/-- Settles O43: the effects of one access on ERR, and those of one command, read off case by case. -/
theorem atMostOneFlagPerAccess : Obligations.AtMostOneFlagPerAccess := by
  constructor
  · intro s t h
    obtain ⟨-, ⟨-, rfl⟩ | ⟨e, rest, hp, he⟩⟩ := step_next_cases h
    · exact .inl rfl
    cases hostEvent_flag he with
    | quiet herr => exact .inl herr
    | clear v herr => exact .inr (.inl ⟨v, rest, hp, herr⟩)
    | reset herr => exact .inr (.inr (.inl ⟨rest, hp, herr⟩))
    | readBusErr herr hno => exact .inr (.inr (.inr (.inl ⟨herr, _, rest, hp, hno⟩)))
    | writeBusErr herr hro => exact .inr (.inr (.inr (.inr (.inl ⟨herr, _, _, rest, hp, hro⟩))))
    | illegalCmd herr hd => exact .inr (.inr (.inr (.inr (.inr (.inl ⟨herr, _, _, rest, hp, hd⟩)))))
    | command hd hx => exact .inr (.inr (.inr (.inr (.inr (.inr ⟨_, _, rest, hp, hd, hx⟩)))))
  · intro s t i h
    cases exec_flag h with
    | quiet herr => exact .inl herr
    | csumErr hi herr => exact .inr (.inl ⟨herr, hi⟩)
    | qFull herr => exact .inr (.inr (.inl ⟨herr, rfl⟩))
    | sensErr herr hkept => exact .inr (.inr (.inr (.inl ⟨herr, rfl, hkept⟩)))
    | encOvf herr => exact .inr (.inr (.inr (.inr (.inl ⟨herr, rfl⟩))))
    | accSat herr hp hv => exact .inr (.inr (.inr (.inr (.inr ⟨herr, rfl, hp, hv⟩))))

end Sys2Proof.Machine

namespace Sys2Proof.Machine

/-! ## Reset and the order of accesses (spec/70_reset_and_hazards.md R211, R213, R225) -/

/-- Settles O50: `step_cfg` follows the parameters through every operation that a step can call. -/
theorem parametersNeverChange : Obligations.ParametersNeverChange :=
  fun _ _ => step_cfg

/-- Settles O28: a TICK answers some state, and HALT zeroes the motors of any; after a HALT the TICK finds IDLE with an
empty FIFO. -/
theorem haltAgainstTick : Obligations.HaltAgainstTick := by
  intro s
  constructor
  · obtain ⟨t, htick, -⟩ := execTick_control s
    exact ⟨t, _, htick, exec_halt t, rfl, rfl⟩
  · exact ⟨_, exec_halt s, exec_tick_of_idle_empty rfl rfl⟩

/-- No register shows the fields that are the model's own, so the reset input answers what `State.reset` reads. -/
theorem readReg_applyReset (r : Reg) (s : State) : readReg r s.applyReset = readReg r State.reset := by
  cases r <;> rfl

/-- R211's table, as the registers read it. -/
theorem readReg_reset (r : Reg) : readReg r State.reset = 0#32 := by
  cases r <;> rfl

/-- Settles O48: the step is `State.applyReset`, which reads as `State.reset` does; the elements that no register shows
are 0 in both by definition. -/
theorem resetSetsEverything : Obligations.ResetSetsEverything := by
  refine ⟨?_, readReg_reset, rfl, rfl, rfl, rfl, rfl⟩
  intro s rest hr hp
  exact ⟨_, step_of_pending s hr hp, fun r => (readReg_applyReset r _).trans (readReg_reset r),
    rfl, rfl, rfl, rfl, rfl, rfl, rfl⟩

end Sys2Proof.Machine

namespace Sys2Proof.Machine

/-! ## The decoder and the encoder are inverse (spec/30_encoding.md R71, R72) -/

/-- A word with no bit outside the low `k` is below `2 ^ k`. -/
theorem toNat_lt_of_and_not_lowMask {v : Word} {k : Nat} (h : v &&& ~~~ (BitVec.ofNat 32 (2 ^ k - 1)) = 0#32) :
    v.toNat < 2 ^ k := by
  have hlow : v &&& BitVec.ofNat 32 (2 ^ k - 1) = v := by
    rw [← BitVec.or_zero (x := v &&& _), ← h, ← BitVec.and_or_distrib_left, BitVec.or_not_self, BitVec.and_allOnes]
  rw [← hlow, BitVec.toNat_and, BitVec.toNat_ofNat]
  apply Nat.and_lt_two_pow
  have hpos := Nat.two_pow_pos k
  exact (Nat.mod_le _ _).trans_lt (by omega)

theorem reservedMask_rxpush : reservedMask 0x03#8 = ~~~ (BitVec.ofNat 32 (2 ^ 16 - 1)) := rfl

theorem reservedMask_of_ne {op : Byte} (h : op ≠ 0x03#8) : reservedMask op = ~~~ (BitVec.ofNat 32 (2 ^ 8 - 1)) :=
  if_neg h

theorem opField_toNat (w : Word) : (opField w).toNat = w.toNat % 2 ^ 8 := by
  rw [opField, BitVec.extractLsb'_toNat, Nat.shiftRight_zero]

theorem argField_toNat (w : Word) : (argField w).toNat = w.toNat / 2 ^ 8 % 2 ^ 8 := by
  rw [argField, BitVec.extractLsb'_toNat, Nat.shiftRight_eq_div_pow]

/-- With the reserved bits clear, a word is determined by OP and, for RXPUSH, by ARG (R71). -/
theorem eq_of_fields {v w : Word} (hv : v &&& reservedMask (opField v) = 0#32)
    (hw : w &&& reservedMask (opField w) = 0#32) (hop : opField v = opField w)
    (harg : opField w = 0x03#8 → argField v = argField w) : v = w := by
  apply BitVec.eq_of_toNat_eq
  rw [hop] at hv
  have hlow := congrArg BitVec.toNat hop
  rw [opField_toNat, opField_toNat] at hlow
  by_cases hpush : opField w = 0x03#8
  · have hmid := congrArg BitVec.toNat (harg hpush)
    rw [argField_toNat, argField_toNat] at hmid
    rw [hpush, reservedMask_rxpush] at hv hw
    have hv' := toNat_lt_of_and_not_lowMask hv
    have hw' := toNat_lt_of_and_not_lowMask hw
    omega
  · rw [reservedMask_of_ne hpush] at hv hw
    have hv' := toNat_lt_of_and_not_lowMask hv
    have hw' := toNat_lt_of_and_not_lowMask hw
    omega

/-- A row of the table selects a command with that opcode and, for RXPUSH, with ARG as its byte (R72). -/
theorem fields_of_opcodeRow {op arg : Byte} {i : Instr} (h : opcodeRow op arg = some i) :
    op = opField (encode i) ∧ (opField (encode i) = 0x03#8 → arg = argField (encode i)) := by
  obtain ⟨-, j, hj, hop⟩ | ⟨-, hnone⟩ := opcodeRow_cases op arg
  · obtain rfl := Option.some.inj (hj.symm.trans h)
    refine ⟨hop.symm, fun hpush => ?_⟩
    have henc := opcodeRow_encode j
    rw [hop, ← h] at henc
    rw [hop] at hpush
    subst hpush
    exact (Instr.rxpush.inj (Option.some.inj henc)).symm
  · exact nomatch hnone.symm.trans h

/-- A word decodes to the command of its row when no reserved bit is 1 (R70, R74). -/
theorem decode_eq_ok_iff (w : Word) (i : Instr) :
    decode w = .ok i ↔ opcodeRow (opField w) (argField w) = some i ∧ w &&& reservedMask (opField w) = 0#32 := by
  unfold decode
  cases opcodeRow (opField w) (argField w) with
  | none => exact ⟨nofun, nofun⟩
  | some j => by_cases hres : w &&& reservedMask (opField w) = 0#32 <;> simp [hres]

/-- Settles O1: a legal word has its command's opcode, the command's ARG where that is not reserved, and no other bit. -/
theorem decodeInvertsEncode : Obligations.DecodeInvertsEncode := by
  intro w i
  constructor
  · intro hd
    obtain ⟨hrow, hres⟩ := (decode_eq_ok_iff w i).mp hd
    obtain ⟨hop, harg⟩ := fields_of_opcodeRow hrow
    exact eq_of_fields hres (encode_and_reservedMask i) hop harg
  · rintro rfl
    exact decode_encode_eq_ok i

/-! ## The masks and matches of the opcode table (R72) -/

/-- A row with the full mask matches its command's word alone. -/
theorem decode_eq_ok_iff_fullMask (w : Word) (i : Instr) : decode w = .ok i ↔ w &&& 0xFFFFFFFF#32 = encode i := by
  rw [show w &&& 0xFFFFFFFF#32 = w from BitVec.and_allOnes]
  exact decodeInvertsEncode w i

/-- RXPUSH's row tests OP and the reserved bits. -/
theorem fields_of_match_rxpush {w : Word} (h : w &&& 0xFFFF00FF#32 = 0x00000003#32) :
    opField w = 0x03#8 ∧ w &&& reservedMask 0x03#8 = 0#32 := by
  constructor
  · calc opField w = opField (w &&& 0xFFFF00FF#32) := by
          rw [opField, opField, BitVec.extractLsb'_and]
          exact BitVec.and_allOnes.symm
      _ = 0x03#8 := by rw [h]; rfl
  · calc w &&& 0xFFFF0000#32 = w &&& 0xFFFF00FF#32 &&& 0xFFFF0000#32 := by rw [BitVec.and_assoc]; rfl
      _ = 0#32 := by rw [h]; rfl

theorem encode_rxpush_matches (b : Byte) :
    encode (.rxpush b) &&& 0xFFFF00FF#32 = 0x00000003#32 ∧ b = argField (encode (.rxpush b)) := by
  revert b
  decide

theorem decode_eq_rxpush_iff (w : Word) (b : Byte) :
    decode w = .ok (.rxpush b) ↔ w &&& 0xFFFF00FF#32 = 0x00000003#32 ∧ b = argField w := by
  constructor
  · intro hd
    rw [(decodeInvertsEncode w _).mp hd]
    exact encode_rxpush_matches b
  · rintro ⟨hmatch, rfl⟩
    obtain ⟨hop, hres⟩ := fields_of_match_rxpush hmatch
    rw [decode_eq_ok_iff, hop]
    exact ⟨rfl, hres⟩

/-- The mask and the match of each row. -/
def tableRows : List (Word × Word) :=
  [(0xFFFFFFFF#32, 0x01#32), (0xFFFFFFFF#32, 0x02#32), (0xFFFF00FF#32, 0x03#32), (0xFFFFFFFF#32, 0x04#32),
   (0xFFFFFFFF#32, 0x10#32), (0xFFFFFFFF#32, 0x11#32), (0xFFFFFFFF#32, 0x12#32), (0xFFFFFFFF#32, 0x20#32),
   (0xFFFFFFFF#32, 0x21#32)]

/-- Any two rows differ in their matches under the bits that both masks test. -/
theorem tableRows_distinct : tableRows.Pairwise fun a b => a.2 &&& b.1 ≠ b.2 &&& a.1 := by
  decide

/-- Two rows that differ under the bits both test match no common word. -/
theorem not_both_match {a b : Word × Word} (h : a.2 &&& b.1 ≠ b.2 &&& a.1) {w : Word} (ha : w &&& a.1 = a.2)
    (hb : w &&& b.1 = b.2) : False := by
  apply h
  rw [← ha, ← hb, BitVec.and_assoc, BitVec.and_assoc, BitVec.and_comm a.1]

/-- At most one entry passes a filter that no two entries of the list pass. -/
theorem length_filter_le_one {α : Type} {p : α → Bool} {l : List α}
    (h : l.Pairwise fun a b => p a = true → p b = true → False) : (l.filter p).length ≤ 1 := by
  have hpair : (l.filter p).Pairwise fun _ _ => False := List.pairwise_filter.mpr h
  match hf : l.filter p with
  | [] => exact Nat.zero_le _
  | [_] => exact le_rfl
  | _ :: _ :: _ =>
    rw [hf] at hpair
    exact (List.rel_of_pairwise_cons hpair List.mem_cons_self).elim

/-- Settles O2: full masks match one word, RXPUSH's row is read off its fields, and the rows are pairwise disjoint. -/
theorem commandTableSelects : Obligations.CommandTableSelects := by
  refine ⟨fun w => ?_, fun w => ?_⟩
  · exact ⟨decode_eq_ok_iff_fullMask w _, decode_eq_ok_iff_fullMask w _, decode_eq_rxpush_iff w,
      decode_eq_ok_iff_fullMask w _, decode_eq_ok_iff_fullMask w _, decode_eq_ok_iff_fullMask w _,
      decode_eq_ok_iff_fullMask w _, decode_eq_ok_iff_fullMask w _, decode_eq_ok_iff_fullMask w _⟩
  · exact length_filter_le_one (tableRows_distinct.imp fun hrows ha hb =>
      not_both_match hrows (of_decide_eq_true ha) (of_decide_eq_true hb))

/-- Settles O6: four of the words are encodings, and the other two are evaluated. -/
theorem sampleWordsDecode : Obligations.SampleWordsDecode :=
  ⟨decode_encode_eq_ok .enc, decode_encode_eq_ok (.rxpush 0x9B), decode_encode_eq_ok .tick,
    decode_encode_eq_ok .corr, rfl, rfl⟩

end Sys2Proof.Machine

namespace Sys2Proof.Machine

/-! ## When a step answers a next state (spec/60_exceptions.md R180, R192; spec/93_implementation_defined.md) -/

/-- Settles O5: a command write that decodes runs its command. -/
theorem stepRunsDecodedCommand : Obligations.StepRunsDecodedCommand :=
  fun _ _ _ _ => step_of_decode_ok

/-- With no event pending, a step answers the same state (R192). -/
theorem step_of_no_pending {s : State} (hr : s.cfg.inRange = true) (hp : s.pending = []) : step s = .next s := by
  rw [step, if_pos hr, serveHost, hp]

/-- Settles O49: there is no event to serve. -/
theorem noAccessNoChange : Obligations.NoAccessNoChange :=
  fun _ => step_of_no_pending

/-- Settles O7: a step either serves an event, which answers a next state, or has none to serve. -/
theorem everyCommandCompletes : Obligations.EveryCommandCompletes := by
  constructor
  · intro i s
    obtain ⟨t, ht, -⟩ := exec_control i s
    exact ⟨t, ht⟩
  · intro s hr
    cases hp : s.pending with
    | nil => exact ⟨s, step_of_no_pending hr hp⟩
    | cons e rest =>
      obtain ⟨t, ht, -⟩ := step_control hr hp
      exact ⟨t, ht⟩

/-- The ranges of R8 and the alignment of D39, as inequalities. -/
theorem inRange_iff (p : Config.Params) : p.inRange = true ↔
    (1 ≤ p.qDepth ∧ p.qDepth ≤ 15) ∧ (1 ≤ p.dtUs ∧ p.dtUs ≤ 1000000) ∧ p.yawAdvShift ≤ 31 ∧ p.fvmcBase % 4 = 0 := by
  simp only [Config.Params.inRange, Bool.and_eq_true, decide_eq_true_eq, and_assoc]

theorem step_of_outOfRange {s : State} (h : ¬ s.cfg.inRange = true) : step s = .refused .parameterOutOfRange :=
  if_neg h

/-- Settles O8: each alternative breaks one of the ranges. -/
theorem outOfRangeParametersRefused : Obligations.OutOfRangeParametersRefused := by
  intro s hout
  apply step_of_outOfRange
  rw [inRange_iff]
  omega

/-- Settles O57: the step is `State.applyReset`, which copies the three fields. -/
theorem resetLeavesTheHostsFields : Obligations.ResetLeavesTheHostsFields :=
  fun s _ hr hp => ⟨_, step_of_pending s hr hp, rfl, rfl, rfl⟩

/-! ## The invariant of R48 and R44 -/

/-- Settles O53: `step_inv` follows the invariant through every operation that a step can call. -/
theorem stepKeepsInvariant : Obligations.StepKeepsInvariant :=
  fun _ _ => step_inv

/-- Settles O52: the state after reset is one that the reset input answers. -/
theorem invariantAtReset : Obligations.InvariantAtReset :=
  applyReset_inv State.reset

/-! ## What a step does to FV_RESULT (spec/40_frame_codec.md R95, R98) -/

/-- A decode step shows as valid only what the accepted frame it decoded carries. -/
theorem decodeFrame_deliveredByAcceptedFrame (v : Frame) (src : Bool) (s : State) :
    (decodeFrame v src s).DeliveredByAcceptedFrame :=
  fun hvalid => ⟨v, decodeFrame_delivers hvalid⟩

theorem turningStep_fvResult (s : State) : (turningStep s).fvResult = s.fvResult := by
  obtain ⟨-, ht⟩ | ⟨-, ht⟩ := turningStep_cases s <;> rw [ht]

theorem advancingStep_fvResult (s : State) : (advancingStep s).fvResult = s.fvResult := by
  rw [advancingStep, estStep_eq_estimated]
  obtain ⟨-, ha⟩ | ⟨-, ha⟩ := advanceControl_cases s.estimated <;> rw [ha] <;> rfl

theorem runPhase_fvResult (s : State) : (runPhase s).fvResult = s.fvResult := by
  obtain ⟨-, hr⟩ | ⟨-, -, hr⟩ | ⟨-, -, -, hr⟩ | ⟨-, hr⟩ := runPhase_cases s <;> rw [hr]
  · exact turningStep_fvResult s
  · exact advancingStep_fvResult s
  · rfl

/-- A TICK decodes nothing (R140). -/
theorem execTick_fvResult {s t : State} (h : execTick s = .next t) : t.fvResult = s.fvResult := by
  obtain ⟨-, -, hx⟩ | ⟨task, rest, -, -, hx⟩ | ⟨-, hx⟩ | ⟨-, hx⟩ := execTick_cases s <;> cases hx.symm.trans h
  · rfl
  · exact runPhase_fvResult (startTask task rest s)
  · exact runPhase_fvResult s
  · exact runPhase_fvResult s

/-- A command leaves FV_RESULT or is a decode step (R94, R100). -/
theorem exec_fvResult {i : Instr} {s t : State} (h : exec i s = .next t) :
    t.fvResult = s.fvResult ∨ ∃ v src c, t = decodeFrame v src c := by
  cases i with
  | dec => cases h; exact .inr ⟨_, _, _, rfl⟩
  | rxpush b =>
    obtain ⟨-, hx⟩ | ⟨-, hx⟩ := execRxpush_cases s b <;> cases hx.symm.trans h
    · exact .inl rfl
    · exact .inr ⟨_, _, _, rfl⟩
  | enq => obtain ⟨-, hx⟩ | ⟨-, hx⟩ := execEnq_cases s <;> cases hx.symm.trans h <;> exact .inl rfl
  | tick => exact .inl (execTick_fvResult h)
  | enc | rxflush | halt | herr | corr => cases h; exact .inl rfl

theorem writeReg_fvResult (r : Reg) (v : Word) (s : State) : (writeReg r v s).fvResult = s.fvResult := by
  cases r <;> rfl

/-- A bus write leaves FV_RESULT unless it runs a decode step. -/
theorem busWrite_fvResult {a : WordAddr} {v : Word} {s t : State} (h : busWrite a v s = .next t) :
    t.fvResult = s.fvResult ∨ ∃ f src c, t = decodeFrame f src c := by
  obtain ⟨-, hb⟩ | ⟨r, -, -, hb⟩ | ⟨r, -, -, hb⟩ | ⟨-, hb⟩ | ⟨-, hb⟩ := busWrite_cases s a v
  · cases hb.symm.trans h; exact .inl rfl
  · cases hb.symm.trans h; exact .inl rfl
  · cases hb.symm.trans h; exact .inl (writeReg_fvResult r v s)
  · cases hb.symm.trans h; exact .inl rfl
  · obtain ⟨i, -, hc⟩ | ⟨e, -, hc⟩ := executeCommand_cases s v
    · exact exec_fvResult (hc.symm.trans (hb.symm.trans h))
    · cases hc.symm.trans (hb.symm.trans h); exact .inl rfl

theorem hostEvent_deliveredByAcceptedFrame {e : HostEvent} {s t : State} (hs : s.DeliveredByAcceptedFrame)
    (h : hostEvent e s = .next t) : t.DeliveredByAcceptedFrame := by
  cases e with
  | read a => cases h; exact hs
  | reset => cases h; exact nofun
  | write a v =>
    obtain hkept | ⟨f, src, c, rfl⟩ := busWrite_fvResult h
    · rwa [State.DeliveredByAcceptedFrame, hkept]
    · exact decodeFrame_deliveredByAcceptedFrame f src c

/-- Settles O55: FV_RESULT is written by the reset input, which shows nothing as valid, and by a decode step. -/
theorem stepDeliversOnlyAcceptedFrames : Obligations.StepDeliversOnlyAcceptedFrames := by
  refine ⟨nofun, fun s t hs h => ?_⟩
  obtain ⟨-, ⟨-, rfl⟩ | ⟨e, rest, -, he⟩⟩ := step_next_cases h
  · exact hs
  · exact hostEvent_deliveredByAcceptedFrame (s := { s with pending := rest }) hs he

/-! ## What a step leaves of the halted state (spec/41_motion_control.md R131, R132) -/

/-- A step that does not issue the one command, or serves no event, keeps the property. -/
theorem KeptUnless.of_step {i : Instr} {P : Control → Prop} (hP : KeptUnless i P) {s t : State}
    (he : ∀ e rest, s.pending = e :: rest → ¬ issues i e) (hs : P s.control) (h : Machine.step s = .next t) :
    P t.control := by
  obtain ⟨hr, ⟨-, rfl⟩ | ⟨e, rest, hp, -⟩⟩ := step_next_cases h
  · exact hs
  · obtain ⟨t', ht, -, hkept⟩ := hP.step hr hp (he e rest hp) hs
    cases ht.symm.trans h
    exact hkept

/-- Settles O56: HALT answers `Control.Halted`, which only an ENQ ends, and `Control.Stopped` ends by a TICK alone. -/
theorem stepKeepsHalted : Obligations.StepKeepsHalted := by
  refine ⟨fun s => ⟨_, exec_halt s, rfl, rfl, rfl, rfl⟩, ?_, ?_⟩
  · intro s t hidle hfifo hmotors he h
    obtain ⟨hfifo', hidle', hmotors'⟩ := halted_keptUnless_enq.of_step he ⟨hfifo, hidle, hmotors⟩ h
    exact ⟨hidle', hfifo', hmotors'⟩
  · intro s t hidle hmotors he h
    exact stopped_keptUnless_tick.of_step he ⟨hidle, hmotors⟩ h

end Sys2Proof.Machine

namespace Sys2Proof.Machine

/-! ## What DEC makes of an overflowed frame (spec/40_frame_codec.md R93) -/

/-- The check value overflows 32 bits exactly for the residues up to `D - 2^32` (R93). -/
theorem checkValue_overflows_iff (p : Payload) :
    0xFFFFFFFF < checkValue p ↔ 2 ^ 32 * p.toNat % 0x104C11DB7 ≤ 0x04C11DB7 := by
  rw [checkValue_eq]
  omega

theorem or_one_of_even {n : Nat} (h : n % 2 = 0) : n ||| 1 = n + 1 := by
  obtain ⟨m, rfl⟩ : ∃ m, n = 2 ^ 1 * m := ⟨n / 2, by omega⟩
  exact (Nat.two_pow_add_eq_or_of_lt (by decide) m).symm

theorem or_one_of_odd {n : Nat} (h : n % 2 = 1) : n ||| 1 = n := by
  obtain ⟨m, rfl⟩ : ∃ m, n = 2 ^ 1 * m + 1 := ⟨n / 2, by omega⟩
  rw [Nat.two_pow_add_eq_or_of_lt (by decide) m, Nat.or_assoc, Nat.or_self]

/-- An overflowed check value sets bit 0 of the payload field. -/
theorem encodeValue_of_overflow {p : Payload} (h : 0xFFFFFFFF < checkValue p) :
    encodeValue p = 2 ^ 32 * (p.toNat ||| 1) + (checkValue p - 2 ^ 32) := by
  have hle : checkValue p ≤ 0x104C11DB7 := Nat.sub_le _ _
  have hdiv := encodeValue_div p
  have hmod := encodeValue_mod p
  rw [show checkValue p / 2 ^ 32 = 1 by omega] at hdiv
  omega

/-- On an even payload the OR is still a sum (R93). -/
theorem encodeValue_of_overflow_even {p : Payload} (h : 0xFFFFFFFF < checkValue p) (heven : p.toNat % 2 = 0) :
    encodeValue p = 2 ^ 32 * p.toNat + checkValue p := by
  rw [encodeValue_of_overflow h, or_one_of_even heven]
  omega

/-- On an odd payload bit 32 of the check value is lost in the OR (R93). -/
theorem encodeValue_of_overflow_odd {p : Payload} (h : 0xFFFFFFFF < checkValue p) (hodd : p.toNat % 2 = 1) :
    encodeValue p + 2 ^ 32 = 2 ^ 32 * p.toNat + checkValue p := by
  rw [encodeValue_of_overflow h, or_one_of_odd hodd]
  omega

/-- The frame of an even overflowing payload is accepted and carries the next payload. -/
theorem encodeFrame_of_overflow_even {p : Payload} (h : 0xFFFFFFFF < checkValue p) (heven : p.toNat % 2 = 0) :
    accepts (encodeFrame p) = true ∧ (encodeFrame p).extractLsb' 32 24 = p + 1 := by
  constructor
  · rw [accepts_eq_true_iff, encodeFrame_toNat, encodeValue_of_overflow_even h heven, shifted_add_checkValue_mod]
  · have hp := p.isLt
    have hle : checkValue p ≤ 0x104C11DB7 := Nat.sub_le _ _
    apply BitVec.eq_of_toNat_eq
    rw [payloadField_toNat, encodeFrame_toNat, encodeValue_of_overflow_even h heven, BitVec.toNat_add,
      show (1 : Payload).toNat = 1 from rfl]
    omega

/-- The frame of an odd overflowing payload leaves the remainder `D - 2^32`. -/
theorem encodeFrame_of_overflow_odd {p : Payload} (h : 0xFFFFFFFF < checkValue p) (hodd : p.toNat % 2 = 1) :
    (encodeFrame p).toNat % 0x104C11DB7 = 0x04C11DB7 := by
  have hsum := encodeValue_of_overflow_odd h hodd
  have hmod := shifted_add_checkValue_mod p
  rw [← hsum] at hmod
  rw [encodeFrame_toNat]
  omega

/-- Settles O11: the overflowed bit is added to an even payload and lost in an odd one. -/
theorem encOverflowOutcome : Obligations.EncOverflowOutcome := by
  refine ⟨fun p => ⟨checkValue_overflows_iff p, shifted_mod_eq_zero_iff p⟩, ?_⟩
  intro s hr
  have hovf := (checkValue_overflows_iff s.fvPayload).mpr hr
  refine ⟨_, _, exec_enc s, ?_, ?_, exec_dec _, ?_, ?_⟩
  · rw [encoded_eq]
    exact decide_eq_true hovf
  · rw [encoded_eq]
    exact if_pos hovf
  · intro heven
    obtain ⟨ha, hp⟩ := encodeFrame_of_overflow_even hovf heven
    rw [encoded_frame, decodeFrame_fvResult, ha, hp]
    rfl
  · intro hodd
    have hrem := encodeFrame_of_overflow_odd hovf hodd
    have hrej := (accepts_eq_false_iff (encodeFrame s.fvPayload)).mpr (by rw [hrem]; decide)
    rw [encoded_frame, decodeFrame_fvResult, hrej]
    exact ⟨hrem, rfl⟩

/-! ## The fields of the composed registers (spec/10_state.md R28 to R30, R33) -/

/-- A bit of a word, by the number it stands for. -/
theorem getLsbD_eq_of_toNat {v : Word} {i : Nat} {b : Bool} (h : v.toNat / 2 ^ i % 2 = b.toNat) : v.getLsbD i = b := by
  rw [BitVec.getLsbD, Nat.testBit_eq_decide_div_mod_eq, h]
  cases b <;> rfl

/-- FV_RESULT's four fields (R28). -/
theorem fvResult_fields (s : State) :
    (readReg .fvResult s).extractLsb' 0 24 = s.fvResult.payload ∧
      (readReg .fvResult s).getLsbD 24 = s.fvResult.valid ∧ (readReg .fvResult s).getLsbD 25 = s.fvResult.src ∧
      (readReg .fvResult s).getLsbD 26 = s.fvResult.decoded := by
  have hp := s.fvResult.payload.isLt
  have hv := Bool.toNat_le s.fvResult.valid
  have hs := Bool.toNat_le s.fvResult.src
  have hd := Bool.toNat_le s.fvResult.decoded
  refine ⟨extractLsb'_eq_of_toNat ?_, getLsbD_eq_of_toNat ?_, getLsbD_eq_of_toNat ?_, getLsbD_eq_of_toNat ?_⟩ <;>
    rw [readReg, fvResultWord_toNat] <;> omega

theorem fvStat_lastEncOvf (s : State) : (readReg .fvStat s).getLsbD 3 = s.lastEncOvf := by
  have ho := Bool.toNat_le s.lastEncOvf
  exact getLsbD_eq_of_toNat (by rw [readReg, fvStatWord_toNat]; omega)

theorem fvCount_fields (s : State) :
    (readReg .fvCount s).extractLsb' 0 16 = s.acceptCnt ∧ (readReg .fvCount s).extractLsb' 16 16 = s.rejectCnt :=
  ⟨BitVec.extractLsb'_append_eq_right, BitVec.extractLsb'_append_eq_left⟩

theorem mcState_headDefaulted (s : State) : (readReg .mcState s).getLsbD 11 = s.headDefaulted := by
  have hd := Bool.toNat_le s.headDefaulted
  exact getLsbD_eq_of_toNat (by rw [readReg, mcStateWord_toNat]; omega)

/-- Settles O46: the composed registers field by field; every other register is its field. -/
theorem statusRegisterFields : Obligations.StatusRegisterFields := by
  intro s
  obtain ⟨hpayload, hvalid, hsrc, hdecoded⟩ := fvResult_fields s
  obtain ⟨haccept, hreject⟩ := fvCount_fields s
  exact ⟨hpayload, hvalid, hsrc, hdecoded, fvStat_rxCnt s, fvStat_lastEncOvf s, haccept, hreject,
    (mcState_phase s).trans (by cases s.phase <;> rfl), mcState_qcount s, mcState_inTol s, mcState_still s,
    mcState_headDefaulted s, rfl, BitVec.toNat_setWidth_of_le (by decide), BitVec.toNat_setWidth_of_le (by decide),
    BitVec.toNat_setWidth_of_le (by decide), rfl, BitVec.toNat_setWidth_of_le (by decide), rfl, rfl,
    BitVec.toNat_setWidth_of_le (by decide), readReg_motYaw_toNat s, readReg_motFwd_toNat s, rfl, rfl, rfl, rfl, rfl,
    rfl, rfl, rfl, rfl, BitVec.toNat_setWidth_of_le (by decide), rfl, rfl, (readReg_motYaw_toNat s).symm,
    (readReg_motFwd_toNat s).symm⟩

/-! ## A run of held TICKs (spec/41_motion_control.md R143, R144, R147) -/

/-- An invalid heading makes every running phase blind (R143, R144). -/
theorem blind_of_heading_invalid {s : State} (hp : s.phase ≠ .idle) (hv : s.sensValid.getLsbD 0 = false) :
    s.Blind := by
  cases hphase : s.phase with
  | idle => exact absurd hphase hp
  | turning => exact .inl ⟨hphase, hv⟩
  | advancing =>
    refine .inr ⟨hphase, fun hboth => ?_⟩
    rw [hboth] at hv
    exact absurd hv (by decide)

theorem step_of_blind_tick {s : State} {rest : List HostEvent} (hr : s.cfg.inRange = true) (hb : s.Blind)
    (hp : s.pending = commandEvent .tick :: rest) : step s = .next (sensorHold { s with pending := rest }) :=
  (step_of_commandEvent hr hp).trans (exec_tick_of_blind (s := { s with pending := rest }) hb)

/-- A second hold finds the first one's motors, count and flag (R184). -/
theorem sensorHold_sensorHold (s : State) : sensorHold (sensorHold s) = sensorHold s := by
  have hraise : (sensorHold s).raise .sensErr = sensorHold s := by
    simp only [sensorHold, State.raise, State.raiseWhen, if_true, BitVec.or_assoc, BitVec.or_self]
  calc sensorHold (sensorHold s)
      = { (sensorHold s).raise .sensErr with inTol := 0, motYaw := 0, motFwd := 0 } := rfl
    _ = sensorHold s := by rw [hraise]; rfl

/-- Any number of TICKs hold a blind machine as one does, because a hold leaves it blind. -/
theorem run_of_blind_ticks (n : Nat) {s : State} (hr : s.cfg.inRange = true) (hb : s.Blind)
    (hp : s.pending = List.replicate (n + 1) (commandEvent .tick)) :
    Host.Core.run Sys2Proof.core (n + 1) s = .next (sensorHold { s with pending := [] }) := by
  induction n generalizing s with
  | zero => exact run_succ_of_next 0 (step_of_blind_tick hr hb hp)
  | succ n ih =>
    have hheld : (sensorHold { s with pending := List.replicate (n + 1) (commandEvent .tick) }).Blind := hb
    calc Host.Core.run Sys2Proof.core (n + 2) s
        = _ := run_succ_of_next (n + 1) (step_of_blind_tick hr hb hp)
      _ = .next (sensorHold (sensorHold { s with pending := [] })) := ih hr hheld rfl
      _ = .next (sensorHold { s with pending := [] }) := by rw [sensorHold_sensorHold]

/-- Settles O38: a run of holds ends where one hold does. -/
theorem blindTaskHoldsForEver : Obligations.BlindTaskHoldsForEver :=
  fun n _ hr hp hv => run_of_blind_ticks n hr (blind_of_heading_invalid hp hv)

end Sys2Proof.Machine

namespace Sys2Proof.Machine

/-! ## The expansions of `task` and `herr_of` (spec/30_encoding.md R77) -/

/-- A register write and the host's events are apart. -/
theorem writeReg_with_pending (r : Reg) (v : Word) (s : State) (events : List HostEvent) :
    { writeReg r v s with pending := events } = writeReg r v { s with pending := events } := by
  cases r <;> rfl

/-- A bus write of an RW register stores the word and takes its event. -/
theorem step_of_regWrite {s : State} {r : Reg} (v : Word) {rest : List HostEvent} (hrw : regAccess r = .rw)
    (hr : s.cfg.inRange = true) :
    step { s with pending := .write (regAddr r) v :: rest } = .next { writeReg r v s with pending := rest } := by
  rw [writeReg_with_pending]
  exact (step_of_write (s := { s with pending := .write (regAddr r) v :: rest }) hr rfl).trans
    (busWrite_regAddr_of_rw hrw v _)

/-- Two writes of RW registers and a command run the command on both stores: the shape of `task` and `herr_of`. -/
theorem run_of_two_writes_and_command {s u : State} {r r' : Reg} {v v' : Word} {i : Instr} {rest : List HostEvent}
    (hrw : regAccess r = .rw) (hrw' : regAccess r' = .rw) (hr : s.cfg.inRange = true)
    (hp : s.pending = .write (regAddr r) v :: .write (regAddr r') v' :: commandEvent i :: rest)
    (hu : exec i { writeReg r' v' (writeReg r v s) with pending := rest } = .next u) :
    Host.Core.run Sys2Proof.core 3 s = .next u := by
  have hr' : (writeReg r v s).cfg.inRange = true := by rwa [writeReg_cfg]
  have hr'' : (writeReg r' v' (writeReg r v s)).cfg.inRange = true := by rwa [writeReg_cfg]
  calc Host.Core.run Sys2Proof.core 3 s
      = Host.Core.run Sys2Proof.core 3
          { s with pending := .write (regAddr r) v :: .write (regAddr r') v' :: commandEvent i :: rest } := by rw [← hp]
    _ = _ := run_succ_of_next 2 (step_of_regWrite v hrw hr)
    _ = _ := run_succ_of_next 1 (step_of_regWrite v' hrw' hr')
    _ = .next u := run_succ_of_next 0 ((step_of_commandEvent (by exact hr'') rfl).trans hu)

/-- MC_DIST keeps a distance in its range whole (R31). -/
theorem storedDist {d : Int} (hd : 0 ≤ d) :
    (asmWord d &&& writableMask .mcDist).setWidth 20 = BitVec.ofInt 20 d := by
  obtain ⟨n, rfl⟩ := Int.eq_ofNat_of_zero_le hd
  rw [BitVec.setWidth_and, asmWord, BitVec.ofInt_natCast, BitVec.ofInt_natCast,
    BitVec.setWidth_ofNat_of_le (by decide)]
  exact BitVec.and_allOnes

/-- A register of 32 bits keeps a signed number whole (R40, R76). -/
theorem storedWord_toInt {a : Int} (hlo : -(2 ^ 31) ≤ a) (hhi : a < 2 ^ 31) :
    (asmWord a &&& 0xFFFFFFFF#32).toInt = a := by
  rw [show asmWord a &&& 0xFFFFFFFF#32 = asmWord a from BitVec.and_allOnes]
  exact BitVec.toInt_ofInt_eq_self (by decide) hlo hhi

theorem exec_enq_of_room {s : State} (h : s.fifo.length < s.cfg.qDepth) :
    exec .enq s = .next { s with fifo := s.fifo ++ [s.taskOperand] } :=
  if_neg h.ne

/-- Settles O47: two stores and the command; the operands are read back as they were written. -/
theorem pseudoInstructionsRun : Obligations.PseudoInstructionsRun := by
  constructor
  · intro s d t rest hr hroom hd _ _ hp
    have hu := exec_enq_of_room
      (s := { writeReg .mcTurn (asmWord t) (writeReg .mcDist (asmWord d) s) with pending := rest }) hroom
    refine ⟨_, run_of_two_writes_and_command rfl rfl hr hp hu, rfl, ?_, rfl⟩
    have htask : (writeReg .mcTurn (asmWord t) (writeReg .mcDist (asmWord d) s)).taskOperand =
        { dist := BitVec.ofInt 20 d, turn := BitVec.ofInt 32 t } := by
      rw [← storedDist hd, ← BitVec.and_allOnes (x := BitVec.ofInt 32 t)]
      rfl
    exact congrArg (s.fifo ++ [·]) htask
  · intro s a b rest hr ha ha' hb hb' hp
    have hu := exec_herr { writeReg .opb (asmWord b) (writeReg .opa (asmWord a) s) with pending := rest }
    refine ⟨_, run_of_two_writes_and_command rfl rfl hr hp hu, rfl, ?_⟩
    obtain ⟨hlo, hhi⟩ := headingError_range a b
    calc (BitVec.ofInt 32 (headingError (asmWord a &&& 0xFFFFFFFF#32).toInt (asmWord b &&& 0xFFFFFFFF#32).toInt)).toInt
        = (BitVec.ofInt 32 (headingError a b)).toInt := by rw [storedWord_toInt ha ha', storedWord_toInt hb hb']
      _ = headingError a b := BitVec.toInt_ofInt_eq_self (by decide) (by omega) (by omega)

/-! ## The base address (spec/92_eei_decisions.md D39) -/

/-- The machine at another base address. -/
def State.atBase (base : Nat) (s : State) : State := { s with cfg := { s.cfg with fvmcBase := base } }

section Base

variable (base : Nat) (s : State)

theorem decodeFrame_atBase (v : Frame) (src : Bool) :
    decodeFrame v src (s.atBase base) = (decodeFrame v src s).atBase base := by
  obtain ⟨ha, hd⟩ | ⟨ha, hd⟩ := decodeFrame_cases s v src <;> rw [hd, decodeFrame, ha] <;> rfl

theorem turningStep_atBase : turningStep (s.atBase base) = (turningStep s).atBase base := by
  obtain ⟨hc, ht⟩ | ⟨hc, ht⟩ := turningStep_cases s <;> rw [ht]
  · exact if_pos hc
  · exact if_neg hc

theorem advanceControl_atBase : advanceControl (s.atBase base) = (advanceControl s).atBase base := by
  obtain ⟨hc, ha⟩ | ⟨hc, ha⟩ := advanceControl_cases s <;> rw [ha]
  · exact if_pos hc
  · exact if_neg hc

theorem advancingStep_atBase : advancingStep (s.atBase base) = (advancingStep s).atBase base :=
  advanceControl_atBase base (estStep (sext s.sensAx) (sext s.sensAy) (sext s.sensAz) s)

/-- No phase of the controller reads the base address. -/
theorem runPhase_atBase : runPhase (s.atBase base) = (runPhase s).atBase base := by
  cases hp : s.phase with
  | idle => rw [runPhase, runPhase, show (s.atBase base).phase = .idle from hp, hp]
  | turning =>
    rw [runPhase_of_turning hp, runPhase_of_turning (s := s.atBase base) hp, turningStep_atBase,
      apply_ite (State.atBase base)]
    rfl
  | advancing =>
    rw [runPhase_of_advancing hp, runPhase_of_advancing (s := s.atBase base) hp, advancingStep_atBase,
      apply_ite (State.atBase base)]
    rfl

theorem readReg_atBase (r : Reg) : readReg r (s.atBase base) = readReg r s := by
  cases r <;> rfl

theorem writeReg_atBase (r : Reg) (v : Word) : writeReg r v (s.atBase base) = (writeReg r v s).atBase base := by
  cases r <;> rfl

end Base

section BaseOutcome

variable (base : Nat) {s t : State}

theorem execTick_atBase (h : execTick s = .next t) : execTick (s.atBase base) = .next (t.atBase base) := by
  obtain ⟨hp, hf, hx⟩ | ⟨task, rest, hp, hf, hx⟩ | ⟨hp, hx⟩ | ⟨hp, hx⟩ := execTick_cases s <;>
    cases hx.symm.trans h
  · exact exec_tick_of_idle_empty (s := s.atBase base) hp hf
  · rw [← runPhase_atBase]
    exact exec_tick_of_queued (s := s.atBase base) hp hf
  all_goals
    rw [← runPhase_atBase]
    exact exec_tick_of_running (s := s.atBase base) (by rw [show (s.atBase base).phase = _ from hp]; nofun)

theorem exec_atBase {i : Instr} (h : exec i s = .next t) : exec i (s.atBase base) = .next (t.atBase base) := by
  cases i with
  | dec =>
    cases h
    exact congrArg _ (decodeFrame_atBase base s s.frame false)
  | rxpush b =>
    obtain ⟨hc, hx⟩ | ⟨hc, hx⟩ := execRxpush_cases s b <;> cases hx.symm.trans h
    · exact exec_rxpush_held (s := s.atBase base) b hc
    · rw [← decodeFrame_atBase]
      exact exec_rxpush_seventh (s := s.atBase base) b (Nat.not_lt.mpr hc)
  | enq =>
    obtain ⟨hc, hx⟩ | ⟨hc, hx⟩ := execEnq_cases s <;> cases hx.symm.trans h
    · exact if_pos hc
    · exact if_neg hc
  | tick => exact execTick_atBase base h
  | enc | rxflush | halt | herr | corr => cases h; rfl

theorem executeCommand_atBase {w : Word} (h : executeCommand w s = .next t) :
    executeCommand w (s.atBase base) = .next (t.atBase base) := by
  obtain ⟨i, hd, hx⟩ | ⟨e, hd, hx⟩ := executeCommand_cases s w <;> rw [executeCommand, hd]
  · exact exec_atBase base (hx.symm.trans h)
  · cases hx.symm.trans h
    rfl

theorem busRead_atBase (a : WordAddr) : busRead a (s.atBase base) = (busRead a s).atBase base := by
  obtain ⟨r, ha, hb⟩ | ⟨ha, hb⟩ := busRead_cases s a
  · obtain rfl := regAt_eq_some ha
    rw [hb, busRead_regAddr, readReg_atBase]
    rfl
  · rw [hb, busRead_of_unmapped ha]
    rfl

theorem busWrite_atBase {a : WordAddr} {v : Word} (h : busWrite a v s = .next t) :
    busWrite a v (s.atBase base) = .next (t.atBase base) := by
  obtain ⟨ha, hb⟩ | ⟨r, rfl, hro, hb⟩ | ⟨r, rfl, hrw, hb⟩ | ⟨rfl, hb⟩ | ⟨rfl, hb⟩ := busWrite_cases s a v
  · cases hb.symm.trans h; exact busWrite_of_unmapped ha v _
  · cases hb.symm.trans h; exact busWrite_regAddr_of_ro hro v _
  · cases hb.symm.trans h
    rw [← writeReg_atBase]
    exact busWrite_regAddr_of_rw hrw v _
  · cases hb.symm.trans h; rfl
  · exact executeCommand_atBase base (hb.symm.trans h)

theorem hostEvent_atBase {e : HostEvent} (h : hostEvent e s = .next t) :
    hostEvent e (s.atBase base) = .next (t.atBase base) := by
  cases e with
  | read a => cases h; exact congrArg _ (busRead_atBase base a)
  | write a v => exact busWrite_atBase base h
  | reset => cases h; rfl

end BaseOutcome

/-- Another word-aligned base leaves the parameters in range. -/
theorem inRange_atBase {base : Nat} {s : State} (hb : base % 4 = 0) (hr : s.cfg.inRange = true) :
    (s.atBase base).cfg.inRange = true := by
  rw [inRange_iff] at hr ⊢
  obtain ⟨hq, hdt, hyaw, -⟩ := hr
  exact ⟨hq, hdt, hyaw, hb⟩

/-- Settles O51: a step reads of the base only that it is word-aligned, and otherwise serves the same event. -/
theorem baseAddressAffectsNoRule : Obligations.BaseAddressAffectsNoRule := by
  intro s t base hb h
  obtain ⟨hr, ⟨hp, rfl⟩ | ⟨e, rest, hp, he⟩⟩ := step_next_cases h
  · exact step_of_no_pending (inRange_atBase hb hr) hp
  · exact (step_of_pending (s.atBase base) (inRange_atBase hb hr) hp).trans (hostEvent_atBase base he)

end Sys2Proof.Machine

namespace Sys2Proof.Machine

/-! ## A run of heading reads in TURNING (spec/41_motion_control.md R142) -/

/-- In TURNING towards a target with a valid heading, and these events of the host still to come. -/
structure State.TurningTo (target : BitVec 32) (events : List HostEvent) (s : State) : Prop where
  /-- the parameters are an FVMC's -/
  inRange : s.cfg.inRange = true
  /-- the phase -/
  phase : s.phase = .turning
  /-- HEAD_OK -/
  headOk : s.sensValid.getLsbD 0 = true
  /-- the target of the running task -/
  target : s.mcTarget = target
  /-- the host's events -/
  pending : s.pending = events

/-- What the last heading read has left: INTOL counts it when it was in tolerance, and the motors hold what it
commanded. With none read yet, the count is fresh. -/
def State.LastRead (target : BitVec 32) (s : State) : Option Word → Prop
  | none => s.inTol = 0
  | some h => s.inTol = (if headingInTol target h then 1 else 0) ∧ s.motFwd = 0 ∧
      s.motYaw = BitVec.ofInt 17 (correction (headingError target.toNat h.toInt))

/-- The state that serves the TICK after a write of SENS_HEAD. -/
def State.facing (h : Word) (events : List HostEvent) (s : State) : State :=
  { s with sensHead := h, pending := events }

/-- The host's accesses of one heading read. -/
abbrev headingRead (h : Word) (events : List HostEvent) : List HostEvent :=
  .write (regAddr .sensHead) h :: commandEvent .tick :: events

theorem headingReads_append (hs hs' : List Word) : headingReads (hs ++ hs') = headingReads hs ++ headingReads hs' :=
  List.flatMap_append

section HeadingRead

variable {s : State} {target : BitVec 32} {h : Word} {events : List HostEvent}

/-- A heading read is one Turning step on that heading. -/
theorem run_headingRead (ht : s.TurningTo target (headingRead h events)) :
    Host.Core.run Sys2Proof.core 2 s = .next (turningStep (s.facing h events)) := by
  obtain ⟨hr, hphase, hok, -, hp⟩ := ht
  have hstore : writeReg .sensHead h { s with pending := commandEvent .tick :: events } =
      s.facing h (commandEvent .tick :: events) :=
    congrArg (fun v => s.facing v (commandEvent .tick :: events)) BitVec.and_allOnes
  have hwrite : step s = .next (s.facing h (commandEvent .tick :: events)) :=
    (step_of_write hr hp).trans (hstore ▸ busWrite_regAddr_of_rw rfl h _)
  have htick : step (s.facing h (commandEvent .tick :: events)) = .next (turningStep (s.facing h events)) :=
    (step_of_commandEvent (s := s.facing h (commandEvent .tick :: events)) hr rfl).trans
      (exec_tick_of_turning (s := s.facing h events) hphase hok)
  exact (run_succ_of_next 1 hwrite).trans (run_succ_of_next 0 htick)

theorem turnCount_facing (ht : s.mcTarget = target) :
    turnCount (s.facing h events) = if headingInTol target h then s.inTol + 1 else 0 := by
  subst ht
  have habs : absInt (turnError (s.facing h events)) = |headingError s.mcTarget.toNat h.toInt| := absInt_eq_abs _
  simp only [turnCount, habs, countInTol, decide_eq_true_eq]
  rfl

/-- After at most one in-tolerance read in a row, the count is 0 or 1 (R142). -/
theorem turnCount_of_lastRead {last : Option Word} (ht : s.mcTarget = target) (hl : s.LastRead target last)
    (hno : ∀ a ∈ last, ¬ (headingInTol target a ∧ headingInTol target h)) :
    turnCount (s.facing h events) = if headingInTol target h then 1 else 0 := by
  rw [turnCount_facing ht]
  by_cases hok : headingInTol target h
  · have hfresh : s.inTol = 0 := by
      cases last with
      | none => exact hl
      | some a =>
        obtain ⟨htol, -⟩ := hl
        rw [htol, if_neg fun ha => hno a rfl ⟨ha, hok⟩]
    rw [if_pos hok, if_pos hok, hfresh]
    rfl
  · rw [if_neg hok, if_neg hok]

/-- A read that is not the second in tolerance leaves TURNING as it is, counts and commands (R142). -/
theorem headingRead_keeps_turning {last : Option Word} (ht : s.TurningTo target (headingRead h events))
    (hl : s.LastRead target last) (hno : ∀ a ∈ last, ¬ (headingInTol target a ∧ headingInTol target h)) :
    ∃ t : State, Host.Core.run Sys2Proof.core 2 s = .next t ∧ t.TurningTo target events ∧
      t.LastRead target (some h) := by
  refine ⟨_, run_headingRead ht, ?_⟩
  obtain ⟨hr, hphase, hok, rfl, -⟩ := ht
  have hcount := turnCount_of_lastRead (events := events) rfl hl hno
  obtain ⟨htwo, -⟩ | ⟨-, hstep⟩ := turningStep_cases (s.facing h events)
  · rw [hcount] at htwo
    split at htwo <;> cases htwo
  · rw [hstep]
    exact ⟨⟨hr, hphase, hok, rfl, rfl⟩, hcount, rfl, rfl⟩

/-- The second in-tolerance read in a row ends TURNING, and leaves the motors as the first one commanded (R142). -/
theorem headingRead_ends_turning {a : Word} (ht : s.TurningTo target (headingRead h events))
    (hl : s.LastRead target (some a)) (ha : headingInTol target a) (hh : headingInTol target h) :
    ∃ t : State, Host.Core.run Sys2Proof.core 2 s = .next t ∧ t.phase = .advancing ∧ t.inTol = 0 ∧ t.motFwd = 0 ∧
      t.motYaw = BitVec.ofInt 17 (correction (headingError target.toNat a.toInt)) := by
  refine ⟨_, run_headingRead ht, ?_⟩
  obtain ⟨htol, hmotors⟩ := hl
  have htwo : turnCount (s.facing h events) = 2#2 := by
    rw [turnCount_facing ht.target, if_pos hh, htol, if_pos ha]
    rfl
  obtain ⟨-, hstep⟩ | ⟨hne, -⟩ := turningStep_cases (s.facing h events)
  · rw [hstep]
    exact ⟨rfl, rfl, hmotors⟩
  · exact absurd htwo hne

end HeadingRead

theorem NoTwoInARow.of_append {α : Type} {ok : α → Prop} {l l' : List α} (h : NoTwoInARow ok (l ++ l')) :
    NoTwoInARow ok l' := by
  rintro pre a b post rfl
  exact h (l ++ pre) a b post (List.append_assoc ..).symm

/-- As long as no two consecutive heading reads are in tolerance, TURNING goes on. -/
theorem run_headingReads {target : BitVec 32} {events : List HostEvent} (hs : List Word) {s : State}
    {last : Option Word} (ht : s.TurningTo target (headingReads hs ++ events)) (hl : s.LastRead target last)
    (hno : NoTwoInARow (headingInTol target) (last.toList ++ hs)) :
    ∃ t : State, Host.Core.run Sys2Proof.core (2 * hs.length) s = .next t ∧ t.TurningTo target events ∧
      t.LastRead target (last.toList ++ hs).getLast? := by
  induction hs generalizing s last with
  | nil => exact ⟨s, rfl, ht, by cases last <;> exact hl⟩
  | cons h hs ih =>
    have hpair : ∀ a ∈ last, ¬ (headingInTol target a ∧ headingInTol target h) := by
      rintro a rfl
      exact hno [] a h hs rfl
    obtain ⟨t, hread, ht', hl'⟩ := headingRead_keeps_turning ht hl hpair
    obtain ⟨u, hrun, hu⟩ := ih (last := some h) ht' hl' hno.of_append
    refine ⟨u, ?_, ?_⟩
    · rw [List.length_cons, Nat.mul_succ, Nat.add_comm, run_add_of_next Sys2Proof.core _ hread, hrun]
    · rwa [List.getLast?_append_cons]

/-- Settles O37: the reads before the last keep TURNING and leave what the last of them commanded; the second of two
in-tolerance reads ends it. -/
theorem turningEndsOnTwoConsecutiveReads : Obligations.TurningEndsOnTwoConsecutiveReads := by
  constructor
  · intro s hs hr hphase hok htol hp hno
    obtain ⟨t, hrun, ht, -⟩ := run_headingReads (events := []) (last := none) hs
      ⟨hr, hphase, hok, rfl, by rw [List.append_nil, hp]⟩ htol hno
    exact ⟨t, hrun, ht.phase⟩
  · intro s pre a b hr hphase hok htol hp hno ha hb
    have hsplit : s.pending = headingReads (pre ++ [a]) ++ headingReads [b] := by
      rw [hp, ← headingReads_append, List.append_assoc]
      rfl
    obtain ⟨t, hrun, ht, hl⟩ := run_headingReads (last := none) (pre ++ [a]) ⟨hr, hphase, hok, rfl, hsplit⟩ htol hno
    have hlast : t.LastRead s.mcTarget (some a) := by simpa using hl
    obtain ⟨u, hend, hu⟩ := headingRead_ends_turning ht hlast ha hb
    refine ⟨u, ?_, hu⟩
    have hlen : 2 * (pre.length + 2) = 2 * (pre ++ [a]).length + 2 := by
      rw [List.length_append, List.length_singleton]
      omega
    rw [hlen, run_add_of_next Sys2Proof.core _ hrun, hend]

end Sys2Proof.Machine
